-- ==== Sys2Proof/Word.lean ====
section
/-! DEFINITION. The plain word types of the TS30: bytes and fields of the link, and local time. -/

namespace Sys2Proof

/-- A character of the link, a flash byte (R189, R217). -/
abbrev Byte := BitVec 8

/-- A two-byte field: frame numbers, parameter values, the frame CRC (R190, R208). -/
abbrev Half := BitVec 16

/-- A four-byte field: times in ms, thresholds (R208). -/
abbrev Word32 := BitVec 32

/-- Local time in µs, 48 bits wide, wrapping to 0 (R121). -/
abbrev Time := BitVec 48

end Sys2Proof
end

