-- ==== Sys2Proof/Syntax.lean ====
section
/-! DEFINITION. The commands of the TS30, one constructor per row of the table of operations and events, and the names
their operands use. -/

namespace Sys2Proof

/-- The angle channels (chapter Angle Channels). -/
inductive ChannelId where
  | tilt | steer | bar
  deriving DecidableEq, Repr

/-- The bridge drives (chapter Actuator Drives and Tilt Brake). -/
inductive DriveId where
  | tilt | steer
  deriving DecidableEq, Repr

/-- The wheels (chapter Wheel Speed). -/
inductive WheelId where
  | fl | fr | rr
  deriving DecidableEq, Repr

/-- The levels of an encoder's A and B lines (R81). -/
structure LinePair where
  a : Bool
  b : Bool
  deriving DecidableEq, Repr

/-- The input levels that rules read between events: BRKS (R164), TSIDE and SSIDE (R101), and TOC and SOC as they stood
at the latest period boundary (R158). True is high. -/
structure Pins where
  brks : Bool
  tside : Bool
  sside : Bool
  toc : Bool
  soc : Bool
  deriving DecidableEq, Repr

/-- All input levels found at the end of a power-on reset: the three line pairs (R80) and the other pins. -/
structure PinLevels where
  tilt : LinePair
  steer : LinePair
  bar : LinePair
  pins : Pins
  deriving DecidableEq, Repr

/-- The commands: one constructor per row of the table. An input whose level a rule samples within the step is an operand
of that step (log 4). -/
inductive Instr where
  | powerOnReset (levels : PinLevels)
  | commandReset
  /-- the operand is the byte the character is taken as, its data bits as received (R189) -/
  | linkByte (byte : Byte)
  | gapTimerExpiry
  | unknownKind (kind : Byte) (payload : List Byte)
  | motion (payload : List Byte)
  | align (n : Half)
  | ride
  | park
  | home
  | clear
  | paramSet (id : Byte) (value : Half)
  | paramGet (id : Byte)
  | mapSet (point : Byte) (speed kc kcs lmax : Half)
  | mapGet (point : Byte)
  | counterSet (counter event mask mode : Byte) (threshold : Word32) (action : Byte)
  | counterRead
  | counterClear (mask : Byte)
  | historyRead
  | status
  | save
  | load
  | reset
  | transmitEnd
  | statusTimerExpiry
  | strobe
  | missedStrobe
  | freshnessDeadlineExpiry
  | lineEvent (channel : ChannelId) (lines : LinePair) (z : Bool)
  | suspectTimerExpiry (channel : ChannelId)
  | wheelEdge (wheel : WheelId)
  | stopTimerExpiry (wheel : WheelId)
  | lawExpiry
  | releaseBlendExpiry
  | captureBlendExpiry
  | leaveInit
  | brakeReleased (tside sside : Bool)
  | brakeEngaged
  | pwmBoundary (toc soc : Bool)
  | loopExpiry (tside sside : Bool)
  | overcurrentCut (drive : DriveId)
  | creepTimerExpiry (drive : DriveId)
  | brksRise
  | brksFall
  | brakeTimerExpiry
  | millisecondTimerExpiry (counter : Fin 8)
  | readStatusDone (statusByte : Byte)
  | pollLimitExpiry
  | headerReadDone (bytes : Vector Byte 8)
  | bodyReadDone (bytes : List Byte)
  | writeEnableDone
  | sectorEraseDone
  | pageProgramDone
  | verifyReadDone (bytes : Vector Byte 176)
  deriving DecidableEq, Repr

end Sys2Proof
end

