-- ==== Sys2Proof/Config.lean ====
section
/-! DEFINITION. The working calibration as data: the 32 named parameters and the points of the speed map (R209 to R211).
Ranges, defaults and the default map are in Machine/Catalogue.lean. The spec leaves no value of the part undefined, so
this file declares no free value. -/

namespace Sys2Proof

/-- The parameter names of the catalogue, in id order (R210). -/
inductive Param where
  | aMax | leanRate | vLock | vFree | vPark | tBlend | tDwell | wheelbase
  | steerRatioLow | steerLimit | steerRate | tiltLimit | kpTilt | kdTilt | kpSteer | kdSteer
  | uMax | creepDuty | cprTilt | cprSteer | cprBar | wheelPpr | circFront | circRear
  | framePeriod | strobeWindow | reportPeriod | slipAbs | slipRel | yawTol | barRateAbort | camberLimit
  deriving DecidableEq, Repr

/-- The values of the 32 parameters, each by its catalogue name (R209, R210). -/
structure Params where
  aMax : Nat
  leanRate : Nat
  vLock : Nat
  vFree : Nat
  vPark : Nat
  tBlend : Nat
  tDwell : Nat
  wheelbase : Nat
  steerRatioLow : Nat
  steerLimit : Nat
  steerRate : Nat
  tiltLimit : Nat
  kpTilt : Nat
  kdTilt : Nat
  kpSteer : Nat
  kdSteer : Nat
  uMax : Nat
  creepDuty : Nat
  cprTilt : Nat
  cprSteer : Nat
  cprBar : Nat
  wheelPpr : Nat
  circFront : Nat
  circRear : Nat
  framePeriod : Nat
  strobeWindow : Nat
  reportPeriod : Nat
  slipAbs : Nat
  slipRel : Nat
  yawTol : Nat
  barRateAbort : Nat
  camberLimit : Nat
  deriving DecidableEq, Repr

/-- One point of the speed map: breakpoint speed and the three values held there (R11). -/
structure MapPoint where
  speed : Nat
  kc : Nat
  kcs : Nat
  lmax : Nat
  deriving DecidableEq, Repr

/-- A calibration: 32 parameter values and the nine map points, numbered 0 to 8 (R11, R209). -/
structure Calibration where
  params : Params
  map : Vector MapPoint 9
  deriving DecidableEq, Repr

end Sys2Proof
end

