-- ==== Sys2Proof/Machine/Operands.lean ====
section
/-! DEFINITION. The arithmetic of the manual: the three roundings and clamping (R2), local-time intervals (R121), and the
byte and bit packing of link fields and flash images (R3, R208). -/

namespace Sys2Proof.Machine

/-- Division rounded to the nearest integer, halves away from zero (R2). -/
def roundDiv (n : Int) (d : Nat) : Int :=
  if n < 0 then -(((2 * n.natAbs + d) / (2 * d) : Nat) : Int) else (((2 * n.natAbs + d) / (2 * d) : Nat) : Int)

/-- Division truncated toward zero (R2). -/
def truncDiv (n d : Int) : Int := Int.tdiv n d

/-- Division of non-negative values rounded up, "ceil" (R2). -/
def ceilDiv (n d : Nat) : Nat := (n + d - 1) / d

/-- Limited to the range lo..hi (R2). -/
def clampTo (lo hi v : Int) : Int := max lo (min hi v)

/-- Limited to the range −x..x (R2). -/
def clampSym (x : Nat) (v : Int) : Int := clampTo (-(x : Int)) x v

/-- The move of a rate-limited target: to the goal when it lies within the step, else by exactly the step toward it; the
flag says that the move was limited (R19, R72). -/
def moveToward (step : Nat) (current goal : Int) : Int × Bool :=
  if (goal - current).natAbs ≤ step then (goal, false)
  else if current < goal then (current + step, true) else (current - step, true)

/-- The µs from `start` to `now`, modulo 2⁴⁸ (R121). -/
def elapsed (start now : Time) : Nat := (now - start).toNat

/-- The local time `us` µs after `t` (R121). -/
def after (t : Time) (us : Nat) : Time := t + BitVec.ofNat 48 us

/-- The local time `us` µs before `t` (R121). -/
def before (t : Time) (us : Nat) : Time := t - BitVec.ofNat 48 us

/-- Local time in ms: divided by 1000, truncated, modulo 2³² (R1, R121). -/
def msOf (t : Time) : Word32 := BitVec.ofNat 32 (t.toNat / 1000)

/-- One byte of a non-negative value, modulo 256. -/
def byteOf (v : Nat) : Byte := BitVec.ofNat 8 v

/-- A two-byte field, low byte first (R3). -/
def le16 (v : Nat) : List Byte := [byteOf v, byteOf (v / 256)]

/-- A four-byte field, low byte first (R3). -/
def le32 (v : Nat) : List Byte := [byteOf v, byteOf (v / 256), byteOf (v / 65536), byteOf (v / 16777216)]

/-- A signed two-byte field in two's complement (R3). -/
def leInt16 (v : Int) : List Byte := le16 (BitVec.ofInt 16 v).toNat

/-- A signed four-byte field in two's complement (R3). -/
def leInt32 (v : Int) : List Byte := le32 (BitVec.ofInt 32 v).toNat

/-- Byte i of a payload. -/
def byteAt (bytes : List Byte) (i : Nat) : Byte := bytes.getD i 0

/-- The two-byte field at offset i, low byte first (R3). -/
def halfAt (bytes : List Byte) (i : Nat) : Half := byteAt bytes (i + 1) ++ byteAt bytes i

/-- The four-byte field at offset i, low byte first (R3). -/
def wordAt (bytes : List Byte) (i : Nat) : Word32 := halfAt bytes (i + 2) ++ halfAt bytes i

/-- A mask byte whose bit i is the i-th flag (R208). -/
def maskOf (flags : List Bool) : Byte :=
  byteOf (flags.foldr (fun b n => b.toNat + 2 * n) 0)

/-- A flag byte or code: 1 when set, 0 when clear (R208). -/
def flagByte (b : Bool) : Byte := if b then 1 else 0

end Sys2Proof.Machine
end

