-- ==== Sys2Proof/Machine/Records.lean ====
section
/-! DEFINITION. The records each block holds, as plain data. Values that a rule gives as a function of others (angle, α,
quality, timers that run from a recorded time) are computed, not stored (log 16). -/

namespace Sys2Proof.Machine

/-! ### Time base (R122) -/

/-- The sync states of the time base (R122). -/
inductive Sync where
  | unsynced | syncing | locked | holdover
  deriving DecidableEq, Repr

/-- The time base's state (R122). -/
structure TimeBase where
  /-- local time, µs (R121) -/
  localTime : Time
  sync : Sync
  frameCount : Half
  /-- the local time at which the fine position was 0; present outside UNSYNCED. The fine position is the µs since. -/
  gridStart : Option Time
  aligned : Bool
  goodRun : Nat
  missedRun : Nat
  deriving DecidableEq, Repr

/-! ### Motion intake (R135) -/

/-- How the latest accepted roll-carrying report was accepted (R135). -/
inductive RollKind where
  | aged | unaged
  deriving DecidableEq, Repr

/-- Inertial quality (R135). -/
inductive Quality where
  | fresh | unaged | stale
  deriving DecidableEq, Repr

/-- The motion intake's state (R135). -/
structure Intake where
  deadline : Option Time
  latestRoll : Option RollKind
  cEst : Int
  mismatchRun : Nat
  matchRun : Nat
  yawSlip : Bool
  deriving DecidableEq, Repr

/-! ### Angle channels (R80) -/

/-- Channel states (R80). -/
inductive ChannelState where
  | unhomed | seeking | homed | suspect | fault
  deriving DecidableEq, Repr

/-- The direction of the latest legal step (R80). -/
inductive Direction where
  | positive | negative
  deriving DecidableEq, Repr

/-- A channel record (R80). -/
structure Channel where
  state : ChannelState
  /-- signed, two's complement (R82) -/
  count : BitVec 32
  direction : Direction
  lines : LinePair
  tally : Nat
  lastDiff : Option Int
  suspectStart : Option Time
  deriving DecidableEq, Repr

/-- The three channel records. -/
structure Channels where
  tilt : Channel
  steer : Channel
  bar : Channel
  deriving DecidableEq, Repr

/-! ### Wheel unit (R102) -/

/-- Wheel states (R102). -/
inductive WheelState where
  | stopped | rolling | invalid
  deriving DecidableEq, Repr

/-- A wheel record (R102). -/
structure Wheel where
  state : WheelState
  lastEdge : Time
  lastPeriod : Option Nat
  lastSpeed : Nat
  deriving DecidableEq, Repr

/-- The kind of a run of disagreement verdicts (R102, R115). -/
inductive Verdict where
  | agree | disagree
  deriving DecidableEq, Repr

/-- A run of equal verdicts with its start time (R102). -/
structure SlipRun where
  kind : Verdict
  start : Time
  deriving DecidableEq, Repr

/-- The three wheel records and the slip record (R102). -/
structure WheelUnit where
  fl : Wheel
  fr : Wheel
  rr : Wheel
  slip : Bool
  run : Option SlipRun
  deriving DecidableEq, Repr

/-! ### Law engine (R5, R65) -/

/-- The lean clamp flags of the latest computation (R5). -/
structure LeanFlags where
  accel : Bool
  limit : Bool
  rate : Bool
  deriving DecidableEq, Repr

/-- The steer clamp flags of the latest computation (R65). -/
structure SteerFlags where
  range : Bool
  rate : Bool
  deriving DecidableEq, Repr

/-- The bar angle a computation used, with its bar-valid flag (R8). -/
structure BarInput where
  b : Int
  valid : Bool
  deriving DecidableEq, Repr

/-- The law engine's state (R5, R65). -/
structure Law where
  timer : Option Time
  phiT : Int
  lambdaT : Int
  deltaT : Int
  ring : List Int
  flags : LeanFlags
  steerFlags : SteerFlags
  latestB : Option BarInput
  latestCap : Nat
  deriving DecidableEq, Repr

/-! ### Regime controller (R31) -/

/-- The ten regimes (R31). -/
inductive Regime where
  | init | parked | homing | unlocking | uprightHold | release | freeLean | capture | locking | safe
  deriving DecidableEq, Repr

/-- Abort causes (R62). -/
inductive AbortCause where
  | speedLow | inertialStale | slip | barRate | channelSuspect | parkRequest
  | driveFault | brakeFault | channelFault | speedUnknown
  deriving DecidableEq, Repr

/-- Persistence classes (R62). -/
inductive Persistence where
  | transient | persistent
  deriving DecidableEq, Repr

/-- An abort record (R62). Its persistence is the class of its cause. -/
structure AbortRecord where
  cause : AbortCause
  fromRegime : Regime
  toRegime : Regime
  alpha : Nat
  speed : Nat
  time : Word32
  deriving DecidableEq, Repr

/-- Blend kinds (R42). -/
inductive BlendKind where
  | release | capture
  deriving DecidableEq, Repr

/-- The blend record; the blend timer is its expiry (R31, R42). -/
structure Blend where
  kind : BlendKind
  t0 : Time
  alphaStart : Nat
  tBlend : Nat
  expiry : Time
  deriving DecidableEq, Repr

/-- Homing phases (R31). -/
inductive HomingPhase where
  | releasing | creep | engaging
  deriving DecidableEq, Repr

/-- A law sample (R6, R31). -/
structure Sample where
  vLaw : Nat
  unknown : Bool
  barRate : Int
  deriving DecidableEq, Repr

/-- The regime controller's state (R31). -/
structure RegimeControl where
  regime : Regime
  blend : Option Blend
  dwellStart : Option Time
  phase : Option HomingPhase
  /-- the SAFE drive record: in SAFE, whether the tilt drive is holding -/
  safeHolding : Option Bool
  latest : Option Sample
  /-- oldest first, at most 8 (R63) -/
  history : List AbortRecord
  deriving DecidableEq, Repr

/-! ### Drive unit (R145, R161) -/

/-- Drive modes (R145). -/
inductive DriveMode where
  | off | creep | hold | run | fault
  deriving DecidableEq, Repr

/-- A drive record, with its DIR output (R145, R148, R149). -/
structure Drive where
  mode : DriveMode
  holdTarget : Option Int
  ePrev : Option Int
  shadow : Int
  active : Int
  cutRun : Nat
  cutFlag : Bool
  satStart : Option Time
  creepTimer : Option Time
  saturated : Bool
  dir : Bool
  deriving DecidableEq, Repr

/-- Brake states (R161). -/
inductive BrakeState where
  | engaged | releasing | released | engaging | brakeFault
  deriving DecidableEq, Repr

/-- The brake record; `output` is the BRKEN level (R161). -/
structure Brake where
  state : BrakeState
  output : Bool
  timer : Option Time
  deriving DecidableEq, Repr

/-- The drive unit: two drives, the brake, the latest PWM period boundary (R149) and the latest loop expiry (R151). -/
structure DriveUnit where
  tilt : Drive
  steer : Drive
  brake : Brake
  periodStart : Time
  latestLoop : Time
  deriving DecidableEq, Repr

/-- The drive modes the regime controller commands (R146). -/
inductive DriveCommand where
  | off | creep | hold (target : Int) | run
  deriving DecidableEq, Repr

/-! ### Counter unit (R170 to R172) -/

/-- The event catalogue, numbers 1 to 15 in this order (R171). -/
inductive CounterEvent where
  | lawClamp | steerClamp | driveCut | quadError | reversal | motionReport | strobe | wheelGlitch | regimeEvent
  | linkFrame | reportAge | slipActive | driveSaturated | inertialDegraded | leanLimited
  deriving DecidableEq, Repr

/-- The three event types (R171). -/
inductive EventType where
  | occurrence | accumulating | condition
  deriving DecidableEq, Repr

/-- Counter modes (R170). -/
inductive CounterMode where
  | count | accumulate | duration | edge
  deriving DecidableEq, Repr

/-- Counter actions (R170). -/
inductive CounterAction where
  | none | notify | derate
  deriving DecidableEq, Repr

/-- What COUNTER_SET configures (R183). An absent event is NONE. -/
structure CounterConfig where
  event : Option CounterEvent
  mask : Byte
  mode : CounterMode
  threshold : Nat
  action : CounterAction
  deriving DecidableEq, Repr

/-- A counter record (R170). -/
structure Counter where
  config : CounterConfig
  value : Nat
  reached : Bool
  remainder : Nat
  mark : Option Time
  deriving DecidableEq, Repr

/-- The condition table (R172). -/
structure Conditions where
  slipWheel : Bool
  slipYaw : Bool
  satTilt : Bool
  satSteer : Bool
  degradedUnaged : Bool
  degradedStale : Bool
  leanLimited : Bool
  deriving DecidableEq, Repr

/-- The counter unit (R170, R172). -/
structure CounterUnit where
  counters : Vector Counter 8
  conditions : Conditions
  deriving DecidableEq, Repr

/-! ### Calibration store (R216 to R223) -/

/-- Store states (R216). -/
inductive StoreState where
  | idle | loading | saving | failed
  deriving DecidableEq, Repr

/-- Store operations (R216). -/
inductive StoreOperation where
  | startUp | load | save
  deriving DecidableEq, Repr

/-- Store results (R208). -/
inductive StoreResult where
  | valid | empty | bad | done | verifyFailed | timeout
  deriving DecidableEq, Repr

/-- The step an operation stands at, which fixes the flash transaction in progress (R217, R218, R223). The body read keeps
the tuple count and the CRC field of the header it follows. -/
inductive StoreStep where
  | loadPoll
  | loadHeader
  | loadBody (tupleCount : Nat) (crc : Half)
  | savePollFirst
  | saveEnableErase
  | saveErase
  | savePollSecond
  | saveEnableProgram
  | saveProgram
  | savePollThird
  | saveVerify
  deriving DecidableEq, Repr

/-- A command on the private flash port (R217). -/
inductive FlashCommand where
  | writeEnable
  | sectorErase
  | pageProgram (image : List Byte)
  | readStatus
  | read (address count : Nat)
  deriving DecidableEq, Repr

/-- The store's state, with the working calibration it owns (R209, R216). -/
structure Store where
  working : Calibration
  state : StoreState
  operation : Option StoreOperation
  snapshot : Option Calibration
  pollLimit : Option Time
  step : Option StoreStep
  deriving DecidableEq, Repr

/-! ### Message link (R188) -/

/-- A frame's kind and payload; start byte, LEN and CRC follow from them (R189). -/
structure Frame where
  kind : Byte
  payload : List Byte
  deriving DecidableEq, Repr

/-- The receiver state with the partial frame held in it: HUNT, LEN, KIND, PAYLOAD, CRC_HI, CRC_LO (R188, R191). -/
inductive Receiver where
  | hunt
  | len
  | kind (length : Nat)
  | payload (length : Nat) (kind : Byte) (taken : List Byte)
  | crcHi (kind : Byte) (payload : List Byte)
  | crcLo (kind : Byte) (payload : List Byte) (high : Byte)
  deriving DecidableEq, Repr

/-- Handover of the receive queue (R188). -/
inductive Handover where
  | opened | closed
  deriving DecidableEq, Repr

/-- The request kinds (R202). -/
inductive RequestKind where
  | motion | align | ride | park | home | clear | paramSet | paramGet | mapSet | mapGet
  | counterSet | counterRead | counterClear | historyRead | status | save | load | reset
  deriving DecidableEq, Repr

/-- Refusal codes (R196). -/
inductive RefusalCode where
  | unknownKind | badLength | badValue | wrongRegime | notHomed | tooFast | busy | faultActive | order | notSynced
  deriving DecidableEq, Repr

/-- The source of a fault report (R35, R208). -/
inductive FaultSource where
  | channel (c : ChannelId)
  | drive (d : DriveId)
  | brake
  | wheel (w : WheelId)
  deriving DecidableEq, Repr

/-- The owners' causes (R96, R160, R166, R167, R111). -/
inductive FaultCause where
  | indexMismatch | outOfRange | suspectTimeout | homingTimeout | overload | tracking
  | releaseTimeout | engageTimeout | senseLost | senseRaised | silent
  deriving DecidableEq, Repr

/-- A REGIME notice (R36); an absent cause is NONE. -/
structure RegimeNotice where
  newRegime : Regime
  previous : Regime
  cause : Option AbortCause
  alpha : Nat
  time : Word32
  deriving DecidableEq, Repr

/-- A FAULT notice (R35). -/
structure FaultNotice where
  source : FaultSource
  cause : FaultCause
  value : Int
  regimeAfter : Regime
  time : Word32
  deriving DecidableEq, Repr

/-- A STORE notice (R219, R223). -/
structure StoreNotice where
  operation : StoreOperation
  result : StoreResult
  stateAfter : StoreState
  time : Word32
  deriving DecidableEq, Repr

/-- A THRESHOLD notice; counter i is bit i of the set (R181, R199). -/
structure ThresholdNotice where
  counters : Byte
  time : Word32
  deriving DecidableEq, Repr

/-- A TIMEBASE notice (R128). -/
structure TimebaseNotice where
  newSync : Sync
  previous : Sync
  frameCount : Half
  aligned : Bool
  time : Word32
  deriving DecidableEq, Repr

/-- A status record (R201). Absent angles are none. -/
structure StatusRecord where
  regime : Regime
  alpha : Nat
  vLaw : Nat
  speedUnknown : Bool
  wheelSlip : Bool
  yawSlip : Bool
  inhibited : Bool
  aligned : Bool
  phiT : Int
  lambdaT : Int
  lambdaM : Option Int
  deltaT : Int
  deltaM : Option Int
  b : Option Int
  cEst : Int
  cap : Nat
  quality : Quality
  sync : Sync
  tiltState : ChannelState
  steerState : ChannelState
  barState : ChannelState
  tiltMode : DriveMode
  steerMode : DriveMode
  brake : BrakeState
  store : StoreState
  time : Word32
  deriving DecidableEq, Repr

/-- The data of an ACCEPTED reply, by request kind (R202 to R205). -/
inductive ReplyData where
  | align (n : Half)
  | ride
  | park (aborted : Bool)
  | home
  | clear
  | paramSet (id : Byte) (held : Nat) (differs : Bool)
  | paramGet (id : Byte) (held : Nat)
  | mapSet (point : Byte) (held : MapPoint) (clamped : Byte)
  | mapGet (point : Byte) (held : MapPoint)
  | counterSet (counter : Byte) (config : CounterConfig)
  | counterRead (values : List (Nat × Bool))
  | counterClear (mask : Byte)
  | historyRead (records : List AbortRecord)
  | status (record : StatusRecord)
  | save
  | load
  | reset
  deriving DecidableEq, Repr

/-- A reply (R196): ACCEPTED with the data of its request, or REFUSED with the echoed kind and the code. -/
inductive Reply where
  | accepted (data : ReplyData)
  | refused (kind : Byte) (code : RefusalCode)
  deriving DecidableEq, Repr

/-- The frame in progress on LTX and any further frame of the same reply (R188, R198). -/
structure Sending where
  current : Frame
  further : List Frame
  deriving DecidableEq, Repr

/-- The message link's state (R188). -/
structure Link where
  receiver : Receiver
  gapTimer : Option Time
  receiveQueue : List Frame
  handover : Handover
  replyQueue : List Reply
  regimeSlot : Option RegimeNotice
  faultSlot : Option FaultNotice
  storeSlot : Option StoreNotice
  thresholdSlot : Option ThresholdNotice
  timebaseSlot : Option TimebaseNotice
  statusSlot : Option StatusRecord
  statusTimer : Option Time
  transmitter : Option Sending
  deriving DecidableEq, Repr

end Sys2Proof.Machine
end

