-- ==== Sys2Proof/Machine/Catalogue.lean ====
section
/-! DEFINITION. The fixed tables of the manual: the parameter catalogue (R210), the default speed map and its ranges (R11,
R215), the balance table (R15), and the catalogue of counter events (R171). -/

namespace Sys2Proof.Machine

/-- A row of the parameter catalogue (R210). -/
structure ParamRow where
  id : Nat
  lo : Nat
  hi : Nat
  default : Nat
  parkedOnly : Bool
  deriving DecidableEq, Repr

/-- The parameter catalogue (R210). REPORT_PERIOD's range here is its second part, 10..1000; `clampParam` keeps 0. -/
def paramRow : Param → ParamRow
  | .aMax => ⟨1, 1000, 9000, 7000, false⟩
  | .leanRate => ⟨2, 500, 8000, 4500, false⟩
  | .vLock => ⟨3, 50, 500, 150, false⟩
  | .vFree => ⟨4, 100, 800, 250, false⟩
  | .vPark => ⟨5, 10, 100, 30, false⟩
  | .tBlend => ⟨6, 100, 2000, 400, false⟩
  | .tDwell => ⟨7, 50, 2000, 200, false⟩
  | .wheelbase => ⟨8, 800, 2000, 1350, false⟩
  | .steerRatioLow => ⟨9, 64, 512, 256, false⟩
  | .steerLimit => ⟨10, 1000, 4000, 3500, false⟩
  | .steerRate => ⟨11, 1000, 20000, 9000, false⟩
  | .tiltLimit => ⟨12, 1000, 4500, 4000, false⟩
  | .kpTilt => ⟨13, 0, 4095, 96, false⟩
  | .kdTilt => ⟨14, 0, 4095, 640, false⟩
  | .kpSteer => ⟨15, 0, 4095, 128, false⟩
  | .kdSteer => ⟨16, 0, 4095, 512, false⟩
  | .uMax => ⟨17, 100, 1000, 900, false⟩
  | .creepDuty => ⟨18, 50, 300, 120, false⟩
  | .cprTilt => ⟨19, 1024, 65535, 16384, true⟩
  | .cprSteer => ⟨20, 1024, 65535, 8192, true⟩
  | .cprBar => ⟨21, 1024, 65535, 4096, true⟩
  | .wheelPpr => ⟨22, 8, 256, 48, true⟩
  | .circFront => ⟨23, 500, 3000, 1300, true⟩
  | .circRear => ⟨24, 500, 3000, 1450, true⟩
  | .framePeriod => ⟨25, 2000, 10000, 5000, true⟩
  | .strobeWindow => ⟨26, 10, 500, 50, true⟩
  | .reportPeriod => ⟨27, 10, 1000, 100, false⟩
  | .slipAbs => ⟨28, 10, 200, 30, false⟩
  | .slipRel => ⟨29, 5, 50, 15, false⟩
  | .yawTol => ⟨30, 500, 10000, 1500, false⟩
  | .barRateAbort => ⟨31, 5000, 60000, 20000, false⟩
  | .camberLimit => ⟨32, 0, 1500, 800, false⟩

/-- The parameters in id order (R210). -/
def allParams : List Param :=
  [.aMax, .leanRate, .vLock, .vFree, .vPark, .tBlend, .tDwell, .wheelbase,
   .steerRatioLow, .steerLimit, .steerRate, .tiltLimit, .kpTilt, .kdTilt, .kpSteer, .kdSteer,
   .uMax, .creepDuty, .cprTilt, .cprSteer, .cprBar, .wheelPpr, .circFront, .circRear,
   .framePeriod, .strobeWindow, .reportPeriod, .slipAbs, .slipRel, .yawTol, .barRateAbort, .camberLimit]

/-- The parameter with a given id, for ids 1..32 (R210). -/
def paramOfId (id : Nat) : Option Param := allParams.find? (fun p => (paramRow p).id == id)

/-- The value held for a parameter (R209). -/
def getParam (c : Params) : Param → Nat
  | .aMax => c.aMax
  | .leanRate => c.leanRate
  | .vLock => c.vLock
  | .vFree => c.vFree
  | .vPark => c.vPark
  | .tBlend => c.tBlend
  | .tDwell => c.tDwell
  | .wheelbase => c.wheelbase
  | .steerRatioLow => c.steerRatioLow
  | .steerLimit => c.steerLimit
  | .steerRate => c.steerRate
  | .tiltLimit => c.tiltLimit
  | .kpTilt => c.kpTilt
  | .kdTilt => c.kdTilt
  | .kpSteer => c.kpSteer
  | .kdSteer => c.kdSteer
  | .uMax => c.uMax
  | .creepDuty => c.creepDuty
  | .cprTilt => c.cprTilt
  | .cprSteer => c.cprSteer
  | .cprBar => c.cprBar
  | .wheelPpr => c.wheelPpr
  | .circFront => c.circFront
  | .circRear => c.circRear
  | .framePeriod => c.framePeriod
  | .strobeWindow => c.strobeWindow
  | .reportPeriod => c.reportPeriod
  | .slipAbs => c.slipAbs
  | .slipRel => c.slipRel
  | .yawTol => c.yawTol
  | .barRateAbort => c.barRateAbort
  | .camberLimit => c.camberLimit

/-- A parameter written with a value (R211). -/
def setParam (c : Params) (p : Param) (v : Nat) : Params :=
  match p with
  | .aMax => { c with aMax := v }
  | .leanRate => { c with leanRate := v }
  | .vLock => { c with vLock := v }
  | .vFree => { c with vFree := v }
  | .vPark => { c with vPark := v }
  | .tBlend => { c with tBlend := v }
  | .tDwell => { c with tDwell := v }
  | .wheelbase => { c with wheelbase := v }
  | .steerRatioLow => { c with steerRatioLow := v }
  | .steerLimit => { c with steerLimit := v }
  | .steerRate => { c with steerRate := v }
  | .tiltLimit => { c with tiltLimit := v }
  | .kpTilt => { c with kpTilt := v }
  | .kdTilt => { c with kdTilt := v }
  | .kpSteer => { c with kpSteer := v }
  | .kdSteer => { c with kdSteer := v }
  | .uMax => { c with uMax := v }
  | .creepDuty => { c with creepDuty := v }
  | .cprTilt => { c with cprTilt := v }
  | .cprSteer => { c with cprSteer := v }
  | .cprBar => { c with cprBar := v }
  | .wheelPpr => { c with wheelPpr := v }
  | .circFront => { c with circFront := v }
  | .circRear => { c with circRear := v }
  | .framePeriod => { c with framePeriod := v }
  | .strobeWindow => { c with strobeWindow := v }
  | .reportPeriod => { c with reportPeriod := v }
  | .slipAbs => { c with slipAbs := v }
  | .slipRel => { c with slipRel := v }
  | .yawTol => { c with yawTol := v }
  | .barRateAbort => { c with barRateAbort := v }
  | .camberLimit => { c with camberLimit := v }

/-- A value clamped to a parameter's range; a REPORT_PERIOD of 0 is kept (R210). -/
def clampParam (p : Param) (v : Nat) : Nat :=
  if p = .reportPeriod ∧ v = 0 then 0 else max (paramRow p).lo (min (paramRow p).hi v)

/-- The default parameter values (R210). -/
def defaultParams : Params where
  aMax := 7000
  leanRate := 4500
  vLock := 150
  vFree := 250
  vPark := 30
  tBlend := 400
  tDwell := 200
  wheelbase := 1350
  steerRatioLow := 256
  steerLimit := 3500
  steerRate := 9000
  tiltLimit := 4000
  kpTilt := 96
  kdTilt := 640
  kpSteer := 128
  kdSteer := 512
  uMax := 900
  creepDuty := 120
  cprTilt := 16384
  cprSteer := 8192
  cprBar := 4096
  wheelPpr := 48
  circFront := 1300
  circRear := 1450
  framePeriod := 5000
  strobeWindow := 50
  reportPeriod := 100
  slipAbs := 30
  slipRel := 15
  yawTol := 1500
  barRateAbort := 20000
  camberLimit := 800

/-- The default speed map (R11). -/
def defaultMap : Vector MapPoint 9 :=
  #v[⟨0, 2500, 0, 0⟩, ⟨150, 2500, 0, 0⟩, ⟨250, 2200, 0, 800⟩, ⟨400, 1800, 64, 1800⟩, ⟨600, 1200, 160, 2600⟩,
     ⟨800, 800, 256, 3200⟩, ⟨1100, 500, 320, 3500⟩, ⟨1500, 300, 384, 3600⟩, ⟨2000, 200, 384, 3600⟩]

/-- The calibration of the defaults (R209). -/
def defaultCalibration : Calibration := ⟨defaultParams, defaultMap⟩

/-- The two cross-constraints on V_FREE and V_PARK (R212). -/
def crossConstrain (c : Params) : Params :=
  { c with vFree := max c.vFree (c.vLock + 50), vPark := min c.vPark (c.vLock - 20) }

/-- A map point with each field clamped to its range (R215). -/
def clampPoint (p : MapPoint) : MapPoint :=
  ⟨min p.speed 2000, min p.kc 5000, min p.kcs 2000, min p.lmax 4254⟩

/-- The clamp mask: one bit per field that was clamped, in the order speed, Kc, Kcs, Lmax (R204). -/
def clampMask (p : MapPoint) : Byte :=
  maskOf [decide (p.speed > 2000), decide (p.kc > 5000), decide (p.kcs > 2000), decide (p.lmax > 4254)]

/-- Each speed is greater than the one before it (R215). -/
def speedsRise : List MapPoint → Bool
  | p :: q :: rest => decide (p.speed < q.speed) && speedsRise (q :: rest)
  | _ => true

/-- The order of the map: point 0's speed is 0 and speeds strictly increase (R11, R215). -/
def mapOrdered (m : Vector MapPoint 9) : Bool := decide (m[0].speed = 0) && speedsRise m.toList

/-- The balance table T[0..12] (R15). -/
def balanceTable : List Nat := [0, 437, 870, 1292, 1701, 2093, 2465, 2816, 3146, 3454, 3741, 4007, 4254]

/-- The type of a catalogued event (R171). -/
def eventType : CounterEvent → EventType
  | .reportAge => .accumulating
  | .slipActive | .driveSaturated | .inertialDegraded | .leanLimited => .condition
  | .lawClamp | .steerClamp | .driveCut | .quadError | .reversal | .motionReport | .strobe | .wheelGlitch
  | .regimeEvent | .linkFrame => .occurrence

/-- How many sub-kinds an event has (R171). -/
def subKinds : CounterEvent → Nat
  | .lawClamp => 3
  | .steerClamp => 2
  | .driveCut => 2
  | .quadError => 3
  | .reversal => 3
  | .motionReport => 5
  | .strobe => 3
  | .wheelGlitch => 3
  | .regimeEvent => 4
  | .linkFrame => 5
  | .reportAge => 0
  | .slipActive => 2
  | .driveSaturated => 2
  | .inertialDegraded => 2
  | .leanLimited => 0

/-- The event with a catalogue number 1..15 (R171). -/
def eventOfNumber : Nat → Option CounterEvent
  | 1 => some .lawClamp
  | 2 => some .steerClamp
  | 3 => some .driveCut
  | 4 => some .quadError
  | 5 => some .reversal
  | 6 => some .motionReport
  | 7 => some .strobe
  | 8 => some .wheelGlitch
  | 9 => some .regimeEvent
  | 10 => some .linkFrame
  | 11 => some .reportAge
  | 12 => some .slipActive
  | 13 => some .driveSaturated
  | 14 => some .inertialDegraded
  | 15 => some .leanLimited
  | _ => none

/-- The catalogue number of an event (R171). -/
def eventNumber : CounterEvent → Nat
  | .lawClamp => 1
  | .steerClamp => 2
  | .driveCut => 3
  | .quadError => 4
  | .reversal => 5
  | .motionReport => 6
  | .strobe => 7
  | .wheelGlitch => 8
  | .regimeEvent => 9
  | .linkFrame => 10
  | .reportAge => 11
  | .slipActive => 12
  | .driveSaturated => 13
  | .inertialDegraded => 14
  | .leanLimited => 15

/-- The modes valid for an event's type (R171). -/
def modeValid (m : CounterMode) (e : CounterEvent) : Bool :=
  match eventType e with
  | .occurrence => m == .count
  | .accumulating => m == .accumulate
  | .condition => m == .duration || m == .edge

/-- The persistence class of an abort cause (R62). -/
def persistence : AbortCause → Persistence
  | .speedLow | .inertialStale | .slip | .barRate | .channelSuspect | .parkRequest => .transient
  | .driveFault | .brakeFault | .channelFault | .speedUnknown => .persistent

end Sys2Proof.Machine
end

