-- ==== Sys2Proof/Machine/Layouts.lean ====
section
/-! DEFINITION. The layouts of the link and of the store image: the code table, the frame and its CRC, request operands,
reply data, notices, the status record and the image (R189, R190, R208, R217, R218, R222). -/

namespace Sys2Proof.Machine

/-! ### Codes (R208) -/

def regimeCode : Regime → Nat
  | .init => 0
  | .parked => 1
  | .homing => 2
  | .unlocking => 3
  | .uprightHold => 4
  | .release => 5
  | .freeLean => 6
  | .capture => 7
  | .locking => 8
  | .safe => 9

def abortCauseCode : AbortCause → Nat
  | .speedLow => 1
  | .inertialStale => 2
  | .slip => 3
  | .barRate => 4
  | .channelSuspect => 5
  | .parkRequest => 6
  | .driveFault => 7
  | .brakeFault => 8
  | .channelFault => 9
  | .speedUnknown => 10

def faultSourceCode : FaultSource → Nat
  | .channel .tilt => 1
  | .channel .steer => 2
  | .channel .bar => 3
  | .drive .tilt => 4
  | .drive .steer => 5
  | .brake => 6
  | .wheel .fl => 7
  | .wheel .fr => 8
  | .wheel .rr => 9

def faultCauseCode : FaultCause → Nat
  | .indexMismatch => 1
  | .outOfRange => 2
  | .suspectTimeout => 3
  | .homingTimeout => 4
  | .overload => 5
  | .tracking => 6
  | .releaseTimeout => 7
  | .engageTimeout => 8
  | .senseLost => 9
  | .senseRaised => 10
  | .silent => 11

def channelStateCode : ChannelState → Nat
  | .unhomed => 0
  | .seeking => 1
  | .homed => 2
  | .suspect => 3
  | .fault => 4

def driveModeCode : DriveMode → Nat
  | .off => 0
  | .creep => 1
  | .hold => 2
  | .run => 3
  | .fault => 4

def brakeStateCode : BrakeState → Nat
  | .engaged => 0
  | .releasing => 1
  | .released => 2
  | .engaging => 3
  | .brakeFault => 4

def qualityCode : Quality → Nat
  | .fresh => 0
  | .unaged => 1
  | .stale => 2

def syncCode : Sync → Nat
  | .unsynced => 0
  | .syncing => 1
  | .locked => 2
  | .holdover => 3

def storeStateCode : StoreState → Nat
  | .idle => 0
  | .loading => 1
  | .saving => 2
  | .failed => 3

def storeOperationCode : StoreOperation → Nat
  | .startUp => 0
  | .load => 1
  | .save => 2

def storeResultCode : StoreResult → Nat
  | .valid => 0
  | .empty => 1
  | .bad => 2
  | .done => 3
  | .verifyFailed => 4
  | .timeout => 5

def counterModeCode : CounterMode → Nat
  | .count => 0
  | .accumulate => 1
  | .duration => 2
  | .edge => 3

def counterModeOfCode : Byte → Option CounterMode
  | 0 => some .count
  | 1 => some .accumulate
  | 2 => some .duration
  | 3 => some .edge
  | _ => none

def counterActionCode : CounterAction → Nat
  | .none => 0
  | .notify => 1
  | .derate => 2

def counterActionOfCode : Byte → Option CounterAction
  | 0 => some .none
  | 1 => some .notify
  | 2 => some .derate
  | _ => none

/-- The refusal codes (R196). -/
def refusalCodeNumber : RefusalCode → Nat
  | .unknownKind => 1
  | .badLength => 2
  | .badValue => 3
  | .wrongRegime => 4
  | .notHomed => 5
  | .tooFast => 6
  | .busy => 7
  | .faultActive => 8
  | .order => 10
  | .notSynced => 11

/-! ### Request kinds (R202) -/

def kindByte : RequestKind → Byte
  | .motion => 0x01
  | .align => 0x02
  | .ride => 0x10
  | .park => 0x11
  | .home => 0x12
  | .clear => 0x13
  | .paramSet => 0x20
  | .paramGet => 0x21
  | .mapSet => 0x22
  | .mapGet => 0x23
  | .counterSet => 0x30
  | .counterRead => 0x31
  | .counterClear => 0x32
  | .historyRead => 0x33
  | .status => 0x34
  | .save => 0x40
  | .load => 0x41
  | .reset => 0x7F

def allKinds : List RequestKind :=
  [.motion, .align, .ride, .park, .home, .clear, .paramSet, .paramGet, .mapSet, .mapGet, .counterSet, .counterRead,
   .counterClear, .historyRead, .status, .save, .load, .reset]

/-- The request kind a KIND byte names, if any. -/
def kindOfByte (b : Byte) : Option RequestKind := allKinds.find? (fun k => kindByte k == b)

/-- The LEN a request kind requires; MOTION is handed over with any length (R195, R202). -/
def requiredLength : RequestKind → Option Nat
  | .motion => none
  | .align => some 2
  | .ride => some 0
  | .park => some 0
  | .home => some 0
  | .clear => some 0
  | .paramSet => some 3
  | .paramGet => some 1
  | .mapSet => some 9
  | .mapGet => some 1
  | .counterSet => some 9
  | .counterRead => some 0
  | .counterClear => some 1
  | .historyRead => some 0
  | .status => some 0
  | .save => some 0
  | .load => some 0
  | .reset => some 0

/-- The LEN check of R195. -/
def lengthFits (k : RequestKind) (length : Nat) : Bool :=
  match requiredLength k with
  | none => true
  | some n => length == n

/-! ### Request payloads (R208) -/

def alignPayload (n : Half) : List Byte := le16 n.toNat

def paramSetPayload (id : Byte) (value : Half) : List Byte := id :: le16 value.toNat

def mapSetPayload (point : Byte) (speed kc kcs lmax : Half) : List Byte :=
  point :: (le16 speed.toNat ++ le16 kc.toNat ++ le16 kcs.toNat ++ le16 lmax.toNat)

def counterSetPayload (counter event mask mode : Byte) (threshold : Word32) (action : Byte) : List Byte :=
  [counter, event, mask, mode] ++ le32 threshold.toNat ++ [action]

/-! ### The frame (R189, R190) -/

/-- One bit of the CRC: shifted left, combined with 0x1021 when the bit shifted out is 1 (R190). -/
def crcBit (r : Half) : Half := if r.msb then (r <<< 1) ^^^ 0x1021 else r <<< 1

/-- One byte of the CRC (R190). -/
def crcByte (r : Half) (b : Byte) : Half :=
  let bits4 (x : Half) : Half := crcBit (crcBit (crcBit (crcBit x)))
  bits4 (bits4 (r ^^^ (b ++ (0 : Byte))))

/-- The CRC of a run of bytes, initial value 0xFFFF (R190). -/
def crc16 (bytes : List Byte) : Half := bytes.foldl crcByte 0xFFFF

/-- The CRC of a frame: LEN, KIND and payload (R190). -/
def frameCrc (kind : Byte) (payload : List Byte) : Half := crc16 (byteOf payload.length :: kind :: payload)

/-- The characters of a frame on the line, the CRC high byte first (R189). -/
def frameLine (f : Frame) : List Byte :=
  [0xC3, byteOf f.payload.length, f.kind] ++ f.payload
    ++ [(frameCrc f.kind f.payload).extractLsb' 8 8, (frameCrc f.kind f.payload).extractLsb' 0 8]

/-- The levels of a character on the line, one for each of its 10 bit times: the start bit low, 8 data bits least significant
first, no parity, and the stop bit high (R189). -/
def characterBits (b : Byte) : List Bool := false :: (List.range 8).map b.getLsbD ++ [true]

/-- The byte a character of 10 bit times is taken as: its data bits as received, whatever its stop bit (R189). -/
def receivedByte (bits : List Bool) : Byte := maskOf ((bits.drop 1).take 8)

/-- The levels of a frame on the line: its characters back to back, each start bit directly after the previous stop bit
(R189). -/
def frameBits (f : Frame) : List Bool := (frameLine f).flatMap characterBits

/-! ### The status record (R208, 35 bytes) -/

/-- An angle, sent as −32768 when absent (R3). -/
def angleField (v : Option Int) : List Byte := leInt16 (v.getD (-32768))

def statusBytes (r : StatusRecord) : List Byte :=
  [byteOf (regimeCode r.regime)] ++ le16 r.alpha ++ le16 r.vLaw
    ++ [maskOf [r.speedUnknown, r.wheelSlip, r.yawSlip, r.inhibited, r.aligned]]
    ++ leInt16 r.phiT ++ leInt16 r.lambdaT ++ angleField r.lambdaM ++ leInt16 r.deltaT ++ angleField r.deltaM
    ++ angleField r.b ++ leInt16 r.cEst ++ le16 r.cap
    ++ [byteOf (qualityCode r.quality), byteOf (syncCode r.sync), byteOf (channelStateCode r.tiltState),
        byteOf (channelStateCode r.steerState), byteOf (channelStateCode r.barState),
        byteOf (driveModeCode r.tiltMode), byteOf (driveModeCode r.steerMode), byteOf (brakeStateCode r.brake),
        byteOf (storeStateCode r.store)]
    ++ le32 r.time.toNat

/-- An abort record, 11 bytes (R208). -/
def recordBytes (r : AbortRecord) : List Byte :=
  [byteOf (abortCauseCode r.cause), flagByte (persistence r.cause == .persistent),
   byteOf (regimeCode r.fromRegime + 16 * regimeCode r.toRegime)]
    ++ le16 r.alpha ++ le16 r.speed ++ le32 r.time.toNat

/-! ### Replies (R196, R205, R208) -/

/-- The COUNTER_SET layout of a configuration as stored (R208). -/
def configBytes (counter : Byte) (c : CounterConfig) : List Byte :=
  [counter, byteOf ((c.event.map eventNumber).getD 0), c.mask, byteOf (counterModeCode c.mode)]
    ++ le32 c.threshold ++ [byteOf (counterActionCode c.action)]

/-- The four fields of a map point (R208). -/
def pointBytes (p : MapPoint) : List Byte := le16 p.speed ++ le16 p.kc ++ le16 p.kcs ++ le16 p.lmax

/-- One frame's data of a HISTORY_READ reply: total count, first index, up to four records (R205). -/
def historyBytes (records : List AbortRecord) (first : Nat) : List Byte :=
  [byteOf records.length, byteOf first] ++ ((records.drop first).take 4).flatMap recordBytes

/-- The request kind an ACCEPTED reply echoes (R196). -/
def replyKind : ReplyData → RequestKind
  | .align _ => .align
  | .ride => .ride
  | .park _ => .park
  | .home => .home
  | .clear => .clear
  | .paramSet _ _ _ => .paramSet
  | .paramGet _ _ => .paramGet
  | .mapSet _ _ _ => .mapSet
  | .mapGet _ _ => .mapGet
  | .counterSet _ _ => .counterSet
  | .counterRead _ => .counterRead
  | .counterClear _ => .counterClear
  | .historyRead _ => .historyRead
  | .status _ => .status
  | .save => .save
  | .load => .load
  | .reset => .reset

/-- The data of a reply, one list of bytes for each of its frames (R198, R202, R208). -/
def replyDataFrames : ReplyData → List (List Byte)
  | .align n => [le16 n.toNat]
  | .park aborted => [[flagByte aborted]]
  | .paramSet id held differs => [id :: le16 held ++ [flagByte differs]]
  | .paramGet id held => [id :: le16 held]
  | .mapSet point held clamped => [point :: pointBytes held ++ [clamped]]
  | .mapGet point held => [point :: pointBytes held]
  | .counterSet counter config => [configBytes counter config]
  | .counterRead values => [values.flatMap (fun v => le32 v.1 ++ [flagByte v.2])]
  | .counterClear mask => [[mask]]
  | .historyRead records =>
    if records.length ≤ 4 then [historyBytes records 0] else [historyBytes records 0, historyBytes records 4]
  | .status record => [statusBytes record]
  | .ride => [[]]
  | .home => [[]]
  | .clear => [[]]
  | .save => [[]]
  | .load => [[]]
  | .reset => [[]]

/-- The frames of a reply: ACCEPTED 0x80 with the echoed kind and the data, or REFUSED 0x81 with the echoed kind and the
refusal code (R196, R208). -/
def replyFrames : Reply → List Frame
  | .accepted data => (replyDataFrames data).map (fun d => ⟨0x80, kindByte (replyKind data) :: d⟩)
  | .refused kind code => [⟨0x81, [kind, byteOf (refusalCodeNumber code)]⟩]

/-! ### Notices (R208) -/

def regimeNoticeFrame (n : RegimeNotice) : Frame :=
  ⟨0x90, [byteOf (regimeCode n.newRegime), byteOf (regimeCode n.previous), byteOf ((n.cause.map abortCauseCode).getD 0)]
    ++ le16 n.alpha ++ le32 n.time.toNat⟩

def faultNoticeFrame (n : FaultNotice) : Frame :=
  ⟨0x91, [byteOf (faultSourceCode n.source), byteOf (faultCauseCode n.cause)] ++ leInt32 n.value
    ++ [byteOf (regimeCode n.regimeAfter)] ++ le32 n.time.toNat⟩

def storeNoticeFrame (n : StoreNotice) : Frame :=
  ⟨0x92, [byteOf (storeOperationCode n.operation), byteOf (storeResultCode n.result),
    byteOf (storeStateCode n.stateAfter)] ++ le32 n.time.toNat⟩

def thresholdNoticeFrame (n : ThresholdNotice) : Frame := ⟨0x93, n.counters :: le32 n.time.toNat⟩

def timebaseNoticeFrame (n : TimebaseNotice) : Frame :=
  ⟨0x94, [byteOf (syncCode n.newSync), byteOf (syncCode n.previous)] ++ le16 n.frameCount.toNat
    ++ [flagByte n.aligned] ++ le32 n.time.toNat⟩

def statusReportFrame (r : StatusRecord) : Frame := ⟨0xA0, statusBytes r⟩

/-! ### The store image (R208, R218, R222) -/

/-- The outcome of the header checks of R218. -/
inductive HeaderVerdict where
  | empty
  | bad
  | pass (tupleCount : Nat) (crc : Half)
  deriving DecidableEq, Repr

/-- The header checks 1 to 5, the first that decides giving the result (R218). -/
def judgeHeader (bytes : Vector Byte 8) : HeaderVerdict :=
  if bytes[0] = 0xFF ∧ bytes[1] = 0xFF then .empty
  else if ¬ (bytes[0] = 0x5A ∧ bytes[1] = 0x3C) then .bad
  else if bytes[2] ≠ 1 then .bad
  else if 64 < bytes[3].toNat then .bad
  else if (bytes[5] ++ bytes[4] : Half).toNat ≠ 72 + 3 * bytes[3].toNat then .bad
  else .pass bytes[3].toNat (bytes[7] ++ bytes[6])

/-- The map point at an offset of an image body (R208). -/
def pointAt (body : List Byte) (i : Nat) : MapPoint :=
  ⟨(halfAt body i).toNat, (halfAt body (i + 2)).toNat, (halfAt body (i + 4)).toNat, (halfAt body (i + 6)).toNat⟩

/-- The clamped map of an image body (R218). -/
def bodyMap (body : List Byte) : Vector MapPoint 9 :=
  #v[clampPoint (pointAt body 0), clampPoint (pointAt body 8), clampPoint (pointAt body 16),
     clampPoint (pointAt body 24), clampPoint (pointAt body 32), clampPoint (pointAt body 40),
     clampPoint (pointAt body 48), clampPoint (pointAt body 56), clampPoint (pointAt body 64)]

/-- The tuples of an image body after its map: id and value (R208). -/
def tuplesOf : List Byte → List (Byte × Half)
  | id :: low :: high :: rest => (id, high ++ low) :: tuplesOf rest
  | _ => []

/-- One tuple applied: skipped for an id outside 1..32, else its clamped value is written (R219). -/
def applyTuple (c : Params) (t : Byte × Half) : Params :=
  match paramOfId t.1.toNat with
  | none => c
  | some p => setParam c p (clampParam p t.2.toNat)

/-- The calibration a VALID body gives: the clamped map, the tuples over the defaults in stored order, the
cross-constraints last (R219). -/
def bodyCalibration (body : List Byte) : Calibration :=
  ⟨crossConstrain ((tuplesOf (body.drop 72)).foldl applyTuple defaultParams), bodyMap body⟩

/-- The body of a saved image: the nine points and the tuples of ids 1 to 32 (R222). -/
def imageBody (c : Calibration) : List Byte :=
  c.map.toList.flatMap pointBytes
    ++ allParams.flatMap (fun p => byteOf (paramRow p).id :: le16 (getParam c.params p))

/-- The image of a calibration, 176 bytes; its CRC is stored low byte first (R208, R222). -/
def imageBytes (c : Calibration) : List Byte :=
  [0x5A, 0x3C, 1, 32] ++ le16 168 ++ le16 (crc16 (imageBody c)).toNat ++ imageBody c

/-- The bytes the store sends for a flash command: the command byte, a 24-bit address when it has one, and data (R217).
DESIGN CHOICE (log 25, unsafe): the three address bytes are sent high byte first, an order that R217 and R208 do not give. -/
def flashBytes : FlashCommand → List Byte
  | .writeEnable => [0x06]
  | .sectorErase => [0x20, 0, 0, 0]
  | .pageProgram image => [0x02, 0, 0, 0] ++ image
  | .readStatus => [0x05]
  | .read address _ => [0x03, byteOf (address / 65536), byteOf (address / 256), byteOf address]

end Sys2Proof.Machine
end

