-- ==== Sys2Proof/Machine/Resets.lean ====
section
/-! DEFINITION. The value of each block's records after a reset, record by record (R5, R31, R65, R80, R102, R122, R135,
R145, R161, R170, R172, R188, R216). -/

namespace Sys2Proof.Machine

/-- R122. -/
def resetTimeBase : TimeBase := ⟨0, .unsynced, 0, none, false, 0, 0⟩

/-- R135. -/
def resetIntake : Intake := ⟨none, none, 0, 0, 0, false⟩

/-- R80: the line pair is the levels on the pins at the reset. -/
def resetChannel (lines : LinePair) : Channel := ⟨.unhomed, 0, .positive, lines, 0, none, none⟩

/-- R102. -/
def resetWheel : Wheel := ⟨.stopped, 0, none, 0⟩

/-- R102. -/
def resetWheels : WheelUnit := ⟨resetWheel, resetWheel, resetWheel, false, none⟩

/-- R5, R65. -/
def resetLaw : Law := ⟨none, 0, 0, 0, [], ⟨false, false, false⟩, ⟨false, false⟩, none, 1024⟩

/-- R31. -/
def resetRegime : RegimeControl := ⟨.init, none, none, none, none, none, []⟩

/-- R145. -/
def resetDrive : Drive := ⟨.off, none, none, 0, 0, 0, false, none, none, false, false⟩

/-- R161: T_BRAKE from the end of the reset at local time 0. -/
def resetBrake : Brake := ⟨.engaging, false, some 150000⟩

/-- R145, R161; the PWM and loop grids start at local time 0 (R149, R151, log 13). -/
def resetDrives : DriveUnit := ⟨resetDrive, resetDrive, resetBrake, 0, 0⟩

/-- R170. -/
def resetConfig : CounterConfig := ⟨none, 0, .count, 0, .none⟩

/-- R170. -/
def resetCounter : Counter := ⟨resetConfig, 0, false, 0, none⟩

/-- R172: INERTIAL_DEGRADED STALE alone is true. -/
def resetConditions : Conditions := ⟨false, false, false, false, false, true, false⟩

/-- R187. -/
def resetCounters : CounterUnit := ⟨Vector.replicate 8 resetCounter, resetConditions⟩

/-- R188: the status timer runs from the end of the reset unless REPORT_PERIOD is 0. -/
def resetStatusTimer (reportPeriod : Nat) : Option Time :=
  if reportPeriod = 0 then none else some (after 0 (1000 * reportPeriod))

/-- R188. -/
def resetLink (reportPeriod : Nat) : Link :=
  ⟨.hunt, none, [], .opened, [], none, none, none, none, none, none, resetStatusTimer reportPeriod, none⟩

/-- R216, R217, R220: after a power-on reset the start-up load stands in its first ready poll, begun at local time 0. -/
def powerOnStore : Store := ⟨defaultCalibration, .loading, some .startUp, none, some 1000000, some .loadPoll⟩

/-- R209, R216, R224: a command reset drops any operation and keeps the working calibration. -/
def commandResetStore (working : Calibration) : Store := ⟨working, .idle, none, none, none, none⟩

/-- The pin levels of `State.reset` (log 4): the encoder lines, side switches and overcurrent lines low, and BRKS high,
with which the reset table's brake state ENGAGING (R161) stands. -/
def resetLevels : PinLevels := ⟨⟨false, false⟩, ⟨false, false⟩, ⟨false, false⟩, ⟨true, false, false, false, false⟩⟩

end Sys2Proof.Machine
end

