-- ==== Sys2Proof/Machine/State.lean ====
section
/-! DEFINITION. The machine's state, the reasons a step can stop, and the state right after a power-on reset. -/

namespace Sys2Proof.Machine

/-- The state of the TS30: the queue of commands that wait (the model's own field), the pins whose level rules read, and
the state of the ten blocks. -/
structure State where
  /-- commands that wait, first in first out (log 19) -/
  pending : List Instr
  pins : Pins
  link : Link
  timeBase : TimeBase
  intake : Intake
  channels : Channels
  wheels : WheelUnit
  law : Law
  regime : RegimeControl
  drives : DriveUnit
  counters : CounterUnit
  store : Store
  deriving DecidableEq, Repr

/-- The faults of the machine: none. The spec gives every event an outcome in every state, so no command raises a machine
fault; the part's own faults (channel, drive, brake, wheel, store) are state (log 21). -/
inductive Fault where
  deriving DecidableEq, Repr

/-- The refusals of the machine. -/
inductive Refusal where
  /-- Raised by `exec` alone, for a command that has no meaning in the model yet; safe. No command is in that case. -/
  | notModelled (mnemonic : String)
  deriving DecidableEq, Repr

/-- The state right after a power-on reset that finds the pins at `resetLevels` (R31, R80, R102, R122, R135, R145, R161,
R170, R188, R216, R220; log 20). -/
def State.reset : State where
  pending := []
  pins := resetLevels.pins
  link := resetLink defaultParams.reportPeriod
  timeBase := resetTimeBase
  intake := resetIntake
  channels := ⟨resetChannel resetLevels.tilt, resetChannel resetLevels.steer, resetChannel resetLevels.bar⟩
  wheels := resetWheels
  law := resetLaw
  regime := resetRegime
  drives := resetDrives
  counters := resetCounters
  store := powerOnStore

end Sys2Proof.Machine
end

