-- ==== Sys2Proof/Machine/Flags.lean ====
section
/-! DEFINITION. The values the manual derives from the state: local time, angles, wheel readings and the selected speed,
quality, α, release inhibition, latched faults, the derate state, the cap, the PWM output level, the status record, and
which timers are due. -/

namespace Sys2Proof.Machine

/-- Local time (R121). -/
def now (s : State) : Time := s.timeBase.localTime

/-- Local time in ms (R1). -/
def nowMs (s : State) : Word32 := msOf (now s)

/-- The parameters in force (R209). -/
def par (s : State) : Params := s.store.working.params

/-! ### Channels, drives, wheels by name -/

def getChannel (s : State) : ChannelId → Channel
  | .tilt => s.channels.tilt
  | .steer => s.channels.steer
  | .bar => s.channels.bar

def setChannel (c : ChannelId) (r : Channel) (s : State) : State :=
  match c with
  | .tilt => { s with channels := { s.channels with tilt := r } }
  | .steer => { s with channels := { s.channels with steer := r } }
  | .bar => { s with channels := { s.channels with bar := r } }

def getDrive (s : State) : DriveId → Drive
  | .tilt => s.drives.tilt
  | .steer => s.drives.steer

def setDrive (d : DriveId) (r : Drive) (s : State) : State :=
  match d with
  | .tilt => { s with drives := { s.drives with tilt := r } }
  | .steer => { s with drives := { s.drives with steer := r } }

def getWheel (s : State) : WheelId → Wheel
  | .fl => s.wheels.fl
  | .fr => s.wheels.fr
  | .rr => s.wheels.rr

def setWheel (w : WheelId) (r : Wheel) (s : State) : State :=
  match w with
  | .fl => { s with wheels := { s.wheels with fl := r } }
  | .fr => { s with wheels := { s.wheels with fr := r } }
  | .rr => { s with wheels := { s.wheels with rr := r } }

/-- The channel a drive turns (chapter 7, table of drives). -/
def driveChannel : DriveId → ChannelId
  | .tilt => .tilt
  | .steer => .steer

/-! ### Angles (R86, R87) -/

/-- The CPR of a channel (R86). -/
def cpr (p : Params) : ChannelId → Nat
  | .tilt => p.cprTilt
  | .steer => p.cprSteer
  | .bar => p.cprBar

/-- HOMED or SUSPECT (R87). -/
def angleState (st : ChannelState) : Bool := st == .homed || st == .suspect

/-- The angle a count stands for (R87). -/
def angleOfCount (count : BitVec 32) (cprValue : Nat) : Int := roundDiv (count.toInt * 36000) cprValue

/-- The angle of a channel, present in HOMED and SUSPECT (R87). -/
def angle (s : State) (c : ChannelId) : Option Int :=
  if angleState (getChannel s c).state then some (angleOfCount (getChannel s c).count (cpr (par s) c)) else none

/-- The range limit of a channel (R95). -/
def rangeLimit (p : Params) : ChannelId → Nat
  | .tilt => p.tiltLimit
  | .steer => p.steerLimit
  | .bar => 5500

/-! ### Wheel readings and the selected speed (R103, R104, R113) -/

/-- The circumference parameter of a wheel (R103). -/
def circumference (p : Params) : WheelId → Nat
  | .fl => p.circFront
  | .fr => p.circFront
  | .rr => p.circRear

/-- The speed of a wheel for an interval of `t` µs between edges (R103). -/
def wheelSpeed (p : Params) (w : WheelId) (t : Nat) : Nat :=
  min 4000 (circumference p w * 100000 / (p.wheelPpr * t))

/-- The reading of a wheel now; an INVALID wheel has none (R104). -/
def reading (s : State) (w : WheelId) : Option Nat :=
  match (getWheel s w).state with
  | .stopped => some 0
  | .invalid => none
  | .rolling =>
    match (getWheel s w).lastPeriod with
    | none => some 0
    | some period =>
      if elapsed (getWheel s w).lastEdge (now s) ≤ period then some (getWheel s w).lastSpeed
      else some (min (getWheel s w).lastSpeed (wheelSpeed (par s) w (elapsed (getWheel s w).lastEdge (now s))))

/-- The median of three readings (R113). -/
def median (x y z : Nat) : Nat := max (min x y) (min (max x y) z)

/-- The measured speed from the readings of the wheels that are not INVALID (R113). -/
def measuredSpeed : Option Nat → Option Nat → Option Nat → Option Nat
  | some x, some y, some z => some (median x y z)
  | some x, some y, none => some (min x y)
  | some x, none, some z => some (min x z)
  | none, some y, some z => some (min y z)
  | _, _, _ => none

/-- The selected speed, at most 2000; none when the speed is unknown (R113, R114). -/
def selectedSpeed (s : State) : Option Nat :=
  (measuredSpeed (reading s .fl) (reading s .fr) (reading s .rr)).map (min 2000)

/-- The speed of request checks and faults: 0 when unknown (R34). -/
def speedNow (s : State) : Nat := (selectedSpeed s).getD 0

/-! ### Quality (R135) -/

/-- The inertial quality (R135). -/
def qualityOf (i : Intake) : Quality :=
  match i.deadline with
  | none => .stale
  | some _ => if i.latestRoll = some .unaged then .unaged else .fresh

def quality (s : State) : Quality := qualityOf s.intake

/-! ### α and release inhibition (R41, R43) -/

/-- floor(1024·(t − t0)/(1000·T_BLEND)) (R43). -/
def blendProgress (b : Blend) (t : Time) : Nat := 1024 * elapsed b.t0 t / (1000 * b.tBlend)

/-- α of a regime, a blend record and a local time (R43). -/
def alphaAt (r : Regime) (b : Option Blend) (t : Time) : Nat :=
  match r, b with
  | .release, some b => min 1024 (blendProgress b t)
  | .freeLean, _ => 1024
  | .capture, some b => b.alphaStart - blendProgress b t
  | _, _ => 0

/-- α now (R43). -/
def alpha (s : State) : Nat := alphaAt s.regime.regime s.regime.blend (now s)

/-- A record's time lies within the last 10000 ms of t (R41). -/
def recent (t : Word32) (r : AbortRecord) : Bool := decide ((t - r.time).toNat < 10000)

/-- Release inhibition at a time in ms (R41). -/
def inhibitedAt (history : List AbortRecord) (t : Word32) : Bool :=
  decide (3 ≤ (history.filter (fun r => persistence r.cause == .transient && recent t r)).length)
    || history.any (fun r => persistence r.cause == .persistent)

/-- Release inhibition now (R41). -/
def releaseInhibited (s : State) : Bool := inhibitedAt s.regime.history (nowMs s)

/-! ### Faults, derate and cap -/

/-- TILT, STEER and BAR are all HOMED (R37, R40). -/
def allHomed (s : State) : Bool :=
  s.channels.tilt.state == .homed && s.channels.steer.state == .homed && s.channels.bar.state == .homed

/-- Some channel is SUSPECT (R45). -/
def anySuspect (s : State) : Bool :=
  s.channels.tilt.state == .suspect || s.channels.steer.state == .suspect || s.channels.bar.state == .suspect

/-- A drive in FAULT, a brake in BRAKE_FAULT or a wheel in INVALID (R37). -/
def faultLatched (s : State) : Bool :=
  s.drives.tilt.mode == .fault || s.drives.steer.mode == .fault || s.drives.brake.state == .brakeFault
    || s.wheels.fl.state == .invalid || s.wheels.fr.state == .invalid || s.wheels.rr.state == .invalid

/-- The derate state: some counter with action DERATE has its reached flag set (R182). -/
def derate (u : CounterUnit) : Bool := u.counters.toList.any (fun c => c.config.action == .derate && c.reached)

/-- The cap from its conditions: slip, quality, derate (R10). -/
def capOf (slip : Bool) (q : Quality) (derated : Bool) : Nat :=
  if slip || q == .stale then 512 else if q == .unaged || derated then 768 else 1024

/-- The cap now (R10). -/
def cap (s : State) : Nat := capOf (s.wheels.slip || s.intake.yawSlip) (quality s) (derate s.counters)

/-! ### The PWM output (R149, R158) -/

/-- The PWM output of a drive is high now: |active|·50 ns from the boundary have not passed, or the duty fills the whole
period, and the period is not cut (R149, R158, log 11). -/
def pwmHigh (s : State) (d : DriveId) : Bool :=
  !(getDrive s d).cutFlag
    && (decide (elapsed s.drives.periodStart (now s) * 20 < (getDrive s d).active.natAbs)
        || decide (1000 ≤ (getDrive s d).active.natAbs))

/-! ### The LTX output (R188, R189) -/

/-- The level of LTX at bit time `i` of the frame in progress: high while the transmitter is IDLE, in which both resets leave it,
and else the level of that bit (R188, R189). The moment at which a bit time falls is left out (log 10). -/
def ltxHigh (l : Link) (i : Nat) : Bool :=
  match l.transmitter with
  | none => true
  | some t => (frameBits t.current).getD i true

/-! ### The status record (R201) -/

/-- The status record of the present moment (R201). -/
def statusRecord (s : State) : StatusRecord where
  regime := s.regime.regime
  alpha := alpha s
  vLaw := speedNow s
  speedUnknown := (selectedSpeed s).isNone
  wheelSlip := s.wheels.slip
  yawSlip := s.intake.yawSlip
  inhibited := releaseInhibited s
  aligned := s.timeBase.aligned
  phiT := s.law.phiT
  lambdaT := s.law.lambdaT
  lambdaM := angle s .tilt
  deltaT := s.law.deltaT
  deltaM := angle s .steer
  b := s.law.latestB.bind (fun i => if i.valid then some i.b else none)
  cEst := s.intake.cEst
  cap := s.law.latestCap
  quality := quality s
  sync := s.timeBase.sync
  tiltState := s.channels.tilt.state
  steerState := s.channels.steer.state
  barState := s.channels.bar.state
  tiltMode := s.drives.tilt.mode
  steerMode := s.drives.steer.mode
  brake := s.drives.brake.state
  store := s.store.state
  time := nowMs s

/-! ### Timers and events that are due (log 3, log 5) -/

/-- The fine position: µs since the latest boundary, present outside UNSYNCED (R122). -/
def finePosition (s : State) : Option Nat := s.timeBase.gridStart.map (fun g => elapsed g (now s))

/-- The window timer expires at fine position P + W (R123). -/
def windowDue (s : State) : Bool :=
  decide (s.timeBase.sync ≠ .unsynced ∧ finePosition s = some ((par s).framePeriod + (par s).strobeWindow))

/-- The freshness deadline is reached (R137). -/
def deadlineDue (s : State) : Bool := decide (s.intake.deadline = some (now s))

/-- The suspect timer of a channel: suspect start + 10 000 000 µs, running in SUSPECT (R94). -/
def suspectTimer (c : Channel) : Option Time :=
  if c.state = .suspect then c.suspectStart.map (fun t => after t 10000000) else none

def suspectDue (s : State) (c : ChannelId) : Bool := decide (suspectTimer (getChannel s c) = some (now s))

/-- The stop timer of a wheel: last edge + 250 000 µs, running in ROLLING (R109). -/
def stopTimer (w : Wheel) : Option Time := if w.state = .rolling then some (after w.lastEdge 250000) else none

def stopDue (s : State) (w : WheelId) : Bool := decide (stopTimer (getWheel s w) = some (now s))

/-- The law timer expires; there is no computation in INIT (R4). -/
def lawDue (s : State) : Bool := decide (s.law.timer = some (now s) ∧ s.regime.regime ≠ .init)

/-- A blend of the kind runs in its regime and reaches its expiry (R42, R48, R49). -/
def blendDue (s : State) (r : Regime) (k : BlendKind) : Bool :=
  match s.regime.blend with
  | none => false
  | some b => decide (s.regime.regime = r ∧ b.kind = k ∧ b.expiry = now s)

/-- The load completion, or a command reset, is there for the regime controller to take: INIT with no start-up load running
(R32, R220, log 5). -/
def leaveInitDue (s : State) : Bool :=
  decide (s.regime.regime = .init ∧ s.store.operation ≠ some .startUp)

/-- A RELEASED completion is there for the regime controller to act on (R39, R53, R164, log 5). -/
def releasedDue (s : State) : Bool :=
  decide (s.drives.brake.state = .released
    ∧ (s.regime.regime = .unlocking ∨ (s.regime.regime = .homing ∧ s.regime.phase = some .releasing)))

/-- An ENGAGED completion is there for the regime controller to act on (R51, R55, R58, R165, log 5). -/
def engagedDue (s : State) : Bool :=
  decide (s.drives.brake.state = .engaged
    ∧ (s.regime.regime = .locking ∨ (s.regime.regime = .homing ∧ s.regime.phase = some .engaging)
      ∨ (s.regime.regime = .safe ∧ s.regime.safeHolding = some true)))

/-- A PWM period boundary: local time is a multiple of 50 µs whose boundary has not been taken (R149). -/
def boundaryDue (s : State) : Bool := decide ((now s).toNat % 50 = 0 ∧ s.drives.periodStart ≠ now s)

/-- A loop expiry: local time is a multiple of 500 µs whose expiry has not been taken (R151). -/
def loopDue (s : State) : Bool := decide ((now s).toNat % 500 = 0 ∧ s.drives.latestLoop ≠ now s)

def creepDue (s : State) (d : DriveId) : Bool := decide ((getDrive s d).creepTimer = some (now s))

def brakeTimerDue (s : State) : Bool := decide (s.drives.brake.timer = some (now s))

/-- The millisecond timer of a counter: mark + 1000 − remainder, running while the mark is present (R176). -/
def millisecondTimer (c : Counter) : Option Time := c.mark.map (fun m => after m (1000 - c.remainder))

def millisecondDue (s : State) (i : Fin 8) : Bool := decide (millisecondTimer s.counters.counters[i] = some (now s))

def gapDue (s : State) : Bool := decide (s.link.gapTimer = some (now s))

def statusDue (s : State) : Bool := decide (s.link.statusTimer = some (now s))

def pollLimitDue (s : State) : Bool := decide (s.store.pollLimit = some (now s))

end Sys2Proof.Machine
end

