-- ==== Sys2Proof/Machine/Idle.lean ====
section
/-! DEFINITION. What the part does when no command waits: it takes an event of its own that is due at the present
microsecond, in one fixed order, or lets one microsecond of local time pass (log 1, log 2). -/

namespace Sys2Proof.Machine

/-- A command when its event is due. -/
def dueIf (b : Bool) (c : Instr) : Option Instr := if b then some c else none

/-- The events of the part itself, each when it is due, in the order in which they are taken (log 2). -/
def dueEvents (s : State) : List (Option Instr) :=
  [dueIf (leaveInitDue s) .leaveInit,
   dueIf (releasedDue s) (.brakeReleased s.pins.tside s.pins.sside),
   dueIf (engagedDue s) .brakeEngaged,
   dueIf (gapDue s) .gapTimerExpiry,
   dueIf (windowDue s) .missedStrobe,
   dueIf (deadlineDue s) .freshnessDeadlineExpiry,
   dueIf (suspectDue s .tilt) (.suspectTimerExpiry .tilt),
   dueIf (suspectDue s .steer) (.suspectTimerExpiry .steer),
   dueIf (suspectDue s .bar) (.suspectTimerExpiry .bar),
   dueIf (stopDue s .fl) (.stopTimerExpiry .fl),
   dueIf (stopDue s .fr) (.stopTimerExpiry .fr),
   dueIf (stopDue s .rr) (.stopTimerExpiry .rr),
   dueIf (creepDue s .tilt) (.creepTimerExpiry .tilt),
   dueIf (creepDue s .steer) (.creepTimerExpiry .steer),
   dueIf (brakeTimerDue s) .brakeTimerExpiry,
   dueIf (pollLimitDue s) .pollLimitExpiry,
   dueIf (statusDue s) .statusTimerExpiry,
   dueIf (millisecondDue s 0) (.millisecondTimerExpiry 0),
   dueIf (millisecondDue s 1) (.millisecondTimerExpiry 1),
   dueIf (millisecondDue s 2) (.millisecondTimerExpiry 2),
   dueIf (millisecondDue s 3) (.millisecondTimerExpiry 3),
   dueIf (millisecondDue s 4) (.millisecondTimerExpiry 4),
   dueIf (millisecondDue s 5) (.millisecondTimerExpiry 5),
   dueIf (millisecondDue s 6) (.millisecondTimerExpiry 6),
   dueIf (millisecondDue s 7) (.millisecondTimerExpiry 7),
   dueIf (blendDue s .release .release) .releaseBlendExpiry,
   dueIf (blendDue s .capture .capture) .captureBlendExpiry,
   dueIf (lawDue s) .lawExpiry,
   dueIf (loopDue s) (.loopExpiry s.pins.tside s.pins.sside),
   dueIf (boundaryDue s) (.pwmBoundary s.pins.toc s.pins.soc)]

/-- The first event that is due, if any (log 2). -/
def nextDue (s : State) : Option Instr := (dueEvents s).findSome? id

/-- One microsecond of local time passes (R121, log 1). -/
def tick (s : State) : State := { s with timeBase := { s.timeBase with localTime := s.timeBase.localTime + 1 } }

end Sys2Proof.Machine
end

