-- ==== Sys2Proof/Machine/Ops.lean ====
section
/-! DEFINITION. The operations many commands share: posting to the link and selecting what to send (R197 to R199),
counting events and conditions (R172 to R182), commanding drives and brake (R146 to R148, R156, R162 to R165), and
commanding channels (R90, R99). -/

namespace Sys2Proof.Machine

/-! ### The transmitter (R197, R198) -/

/-- The frames of an item become the frames being sent. -/
def startSending (frames : List Frame) (l : Link) : Link :=
  match frames with
  | [] => l
  | f :: rest => { l with transmitter := some ⟨f, rest⟩ }

/-- The selection of an idle transmitter: the oldest reply, else the first pending notice in the order REGIME, FAULT,
STORE, THRESHOLD, TIMEBASE, else the status record. A sending transmitter selects nothing (R197). -/
def selectToSend (l : Link) : Link :=
  if l.transmitter.isSome then l
  else match l.replyQueue with
  | r :: rest => startSending (replyFrames r) { l with replyQueue := rest }
  | [] =>
    match l.regimeSlot with
    | some n => startSending [regimeNoticeFrame n] { l with regimeSlot := none }
    | none =>
    match l.faultSlot with
    | some n => startSending [faultNoticeFrame n] { l with faultSlot := none }
    | none =>
    match l.storeSlot with
    | some n => startSending [storeNoticeFrame n] { l with storeSlot := none }
    | none =>
    match l.thresholdSlot with
    | some n => startSending [thresholdNoticeFrame n] { l with thresholdSlot := none }
    | none =>
    match l.timebaseSlot with
    | some n => startSending [timebaseNoticeFrame n] { l with timebaseSlot := none }
    | none =>
    match l.statusSlot with
    | some r => startSending [statusReportFrame r] { l with statusSlot := none }
    | none => l

/-- Posting to the link: the change is made, and an idle transmitter selects at the posting (R197, log 9). -/
def postLink (change : Link → Link) (s : State) : State := { s with link := selectToSend (change s.link) }

/-- A reply becomes the newest entry of the reply queue (R196). -/
def postReply (r : Reply) (s : State) : State := postLink (fun l => { l with replyQueue := l.replyQueue ++ [r] }) s

/-- REFUSED with the echoed kind and a code (R196). -/
def refuse (k : RequestKind) (code : RefusalCode) (s : State) : State := postReply (.refused (kindByte k) code) s

/-- ACCEPTED with its data (R196). -/
def accept (data : ReplyData) (s : State) : State := postReply (.accepted data) s

def postRegimeNotice (n : RegimeNotice) (s : State) : State := postLink (fun l => { l with regimeSlot := some n }) s

def postFaultNotice (n : FaultNotice) (s : State) : State := postLink (fun l => { l with faultSlot := some n }) s

def postStoreNotice (n : StoreNotice) (s : State) : State := postLink (fun l => { l with storeSlot := some n }) s

def postTimebaseNotice (n : TimebaseNotice) (s : State) : State := postLink (fun l => { l with timebaseSlot := some n }) s

/-- A THRESHOLD notice is merged into a pending one by union, with the new time (R199). -/
def mergeThreshold (pending : Option ThresholdNotice) (n : ThresholdNotice) : ThresholdNotice :=
  match pending with
  | none => n
  | some p => ⟨p.counters ||| n.counters, n.time⟩

def postThresholdNotice (n : ThresholdNotice) (s : State) : State :=
  postLink (fun l => { l with thresholdSlot := some (mergeThreshold l.thresholdSlot n) }) s

/-! ### Counting (R173 to R182) -/

/-- The bound of counter values and thresholds (R170, R179). -/
def counterMax : Nat := 4294967295

/-- The threshold test after an increase: the flag is set when the threshold is not 0, the flag is clear and the value is at
least the threshold (R180). -/
def reachesThreshold (c : Counter) : Bool :=
  decide (c.config.threshold ≠ 0 ∧ c.reached = false ∧ c.config.threshold ≤ c.value)

/-- An increase of a counter's value, saturating, with its threshold test; the flag says that the test set reached (R179,
R180). -/
def increase (n : Nat) (c : Counter) : Counter × Bool :=
  let grown := { c with value := min counterMax (c.value + n) }
  ({ grown with reached := grown.reached || reachesThreshold grown }, reachesThreshold grown)

/-- A counter's part in an occurrence with a set of sub-kinds (R174). -/
def takeOccurrence (e : CounterEvent) (kinds : Byte) (c : Counter) : Counter × Bool :=
  if c.config.event = some e ∧ c.config.mode = .count ∧ c.config.mask &&& kinds ≠ 0 then increase 1 c else (c, false)

/-- A counter's part in a REPORT_AGE event (R175). -/
def takeAge (age : Nat) (c : Counter) : Counter × Bool :=
  if c.config.event = some .reportAge ∧ c.config.mode = .accumulate then increase age c else (c, false)

/-- The selected condition of a counter (R172). -/
def selectedCondition (c : CounterConfig) (t : Conditions) : Bool :=
  match c.event with
  | some .slipActive => (c.mask.getLsbD 0 && t.slipWheel) || (c.mask.getLsbD 1 && t.slipYaw)
  | some .driveSaturated => (c.mask.getLsbD 0 && t.satTilt) || (c.mask.getLsbD 1 && t.satSteer)
  | some .inertialDegraded => (c.mask.getLsbD 0 && t.degradedUnaged) || (c.mask.getLsbD 1 && t.degradedStale)
  | some .leanLimited => t.leanLimited
  | _ => false

/-- A selected condition turns true: a DURATION counter starts timing, an EDGE counter counts (R176, R178). -/
def conditionRises (t : Time) (c : Counter) : Counter × Bool :=
  match c.config.mode with
  | .duration => ({ c with mark := some t }, false)
  | .edge => increase 1 c
  | .count => (c, false)
  | .accumulate => (c, false)

/-- A selected condition turns false: a DURATION counter keeps the true time gathered, counting a whole ms if it has one
(R177, R178). -/
def conditionFalls (t : Time) (c : Counter) : Counter × Bool :=
  match c.config.mode, c.mark with
  | .duration, some m =>
    let gathered := c.remainder + elapsed m t
    if 1000 ≤ gathered then increase 1 { c with remainder := gathered - 1000, mark := none }
    else ({ c with remainder := gathered, mark := none }, false)
  | _, _ => (c, false)

/-- A counter's part in a delivery that changes the condition table (R172). -/
def takeConditions (old new : Conditions) (t : Time) (c : Counter) : Counter × Bool :=
  if selectedCondition c.config old = selectedCondition c.config new then (c, false)
  else if selectedCondition c.config new then conditionRises t c
  else conditionFalls t c

/-- Counter i as a counter set of the THRESHOLD notice (R208). -/
def counterBit (i : Fin 8) : Byte := 1#8 <<< i.val

/-- One counter takes its part; a NOTIFY counter whose flag is set posts a THRESHOLD notice (R180, R181). -/
def offerTo (take : Counter → Counter × Bool) (s : State) (i : Fin 8) : State :=
  let taken := take s.counters.counters[i]
  let stored := { s with counters := { s.counters with counters := s.counters.counters.set i taken.1 } }
  if taken.2 && taken.1.config.action == .notify then postThresholdNotice ⟨counterBit i, nowMs s⟩ stored else stored

/-- The counters in order. -/
def counterIndices : List (Fin 8) := [0, 1, 2, 3, 4, 5, 6, 7]

/-- An event is offered to all eight counters (R173, log 12). -/
def offerAll (take : Counter → Counter × Bool) (s : State) : State := counterIndices.foldl (offerTo take) s

/-- An occurrence with its sub-kinds is delivered to the counter unit (R173, R174). -/
def deliver (e : CounterEvent) (kinds : Byte) (s : State) : State := offerAll (takeOccurrence e kinds) s

/-- A REPORT_AGE event is delivered (R175). -/
def deliverAge (age : Nat) (s : State) : State := offerAll (takeAge age) s

/-- A delivery of conditions writes the table, and every counter takes the change of its selected condition (R172). -/
def deliverConditions (new : Conditions) (s : State) : State :=
  offerAll (takeConditions s.counters.conditions new (now s)) { s with counters := { s.counters with conditions := new } }

def deliverSlipWheel (v : Bool) (s : State) : State := deliverConditions { s.counters.conditions with slipWheel := v } s

def deliverSlipYaw (v : Bool) (s : State) : State := deliverConditions { s.counters.conditions with slipYaw := v } s

def deliverSaturated (d : DriveId) (v : Bool) (s : State) : State :=
  match d with
  | .tilt => deliverConditions { s.counters.conditions with satTilt := v } s
  | .steer => deliverConditions { s.counters.conditions with satSteer := v } s

def deliverDegraded (q : Quality) (s : State) : State :=
  deliverConditions { s.counters.conditions with degradedUnaged := q == .unaged, degradedStale := q == .stale } s

def deliverLeanLimited (v : Bool) (s : State) : State := deliverConditions { s.counters.conditions with leanLimited := v } s

/-- A channel as a sub-kind (R171). -/
def channelKind : ChannelId → Byte
  | .tilt => 1
  | .steer => 2
  | .bar => 4

/-- A drive as a sub-kind (R171). -/
def driveKind : DriveId → Byte
  | .tilt => 1
  | .steer => 2

/-- A wheel as a sub-kind (R171). -/
def wheelKind : WheelId → Byte
  | .fl => 1
  | .fr => 2
  | .rr => 4

/-! ### Drive commands (R146 to R148, R156) -/

/-- The published target a drive follows in RUN (R147, R151). -/
def publishedTarget (s : State) : DriveId → Int
  | .tilt => s.law.lambdaT
  | .steer => s.law.deltaT

/-- The saturated sub-condition turns false, and the change is delivered when it was true (R154). -/
def endSaturation (d : DriveId) (s : State) : State :=
  if (getDrive s d).saturated then deliverSaturated d false (setDrive d { getDrive s d with saturated := false } s) else s

/-- The leaving actions of a mode (R146). -/
def leaveMode (d : DriveId) (s : State) : State :=
  match (getDrive s d).mode with
  | .creep => setDrive d { getDrive s d with creepTimer := none } s
  | .hold => endSaturation d (setDrive d { getDrive s d with holdTarget := none, ePrev := none, satStart := none } s)
  | .run => endSaturation d (setDrive d { getDrive s d with ePrev := none, satStart := none } s)
  | .off => s
  | .fault => s

/-- Entry into OFF: outputs low, duties 0, the cut run and flag clear (R148). -/
def enterOff (d : DriveId) (s : State) : State :=
  setDrive d { getDrive s d with mode := .off, shadow := 0, active := 0, cutRun := 0, cutFlag := false, dir := false } s

/-- The creep duty from the side switch level (R156). -/
def creepDuty (s : State) (d : DriveId) : Int :=
  let magnitude : Int := min (par s).creepDuty (par s).uMax
  let level := match d with
    | .tilt => s.pins.tside
    | .steer => s.pins.sside
  if level then -magnitude else magnitude

/-- Entry into CREEP: the creep timer and the first creep duty (R156, R157). -/
def enterCreep (d : DriveId) (s : State) : State :=
  setDrive d { getDrive s d with mode := .creep, creepTimer := some (after (now s) 3000000), shadow := creepDuty s d } s

/-- Entry into RUN or HOLD prepares the loop (R147). -/
def enterLoop (d : DriveId) (mode : DriveMode) (hold : Option Int) (target : Int) (s : State) : State :=
  setDrive d
    { getDrive s d with
      mode := mode
      holdTarget := hold
      ePrev := (angle s (driveChannel d)).map (fun a => target - a)
      shadow := 0
      satStart := none } s

/-- A mode command of the regime controller to a drive, by its present mode (R146). -/
def commandDrive (d : DriveId) (cmd : DriveCommand) (s : State) : State :=
  match (getDrive s d).mode, cmd with
  | .fault, _ => s
  | .off, .off => s
  | .creep, .creep => s
  | .run, .run => s
  | .hold, .hold x => enterLoop d .hold (some x) x s
  | _, .off => enterOff d (leaveMode d s)
  | _, .creep => enterCreep d (leaveMode d s)
  | _, .hold x => enterLoop d .hold (some x) x (leaveMode d s)
  | _, .run => enterLoop d .run none (publishedTarget s d) (leaveMode d s)

/-- Both drives OFF (R30). -/
def bothOff (s : State) : State := commandDrive .steer .off (commandDrive .tilt .off s)

/-! ### Brake commands (R162 to R165) -/

def setBrake (b : Brake) (s : State) : State := { s with drives := { s.drives with brake := b } }

/-- RELEASING is entered, and completes at once when BRKS is already high (R162, R164). -/
def startReleasing (s : State) : State :=
  if s.pins.brks then setBrake ⟨.released, true, none⟩ s
  else setBrake ⟨.releasing, true, some (after (now s) 150000)⟩ s

/-- ENGAGING is entered, and completes at once when BRKS is already low (R163, R165). -/
def startEngaging (s : State) : State :=
  if s.pins.brks then setBrake ⟨.engaging, false, some (after (now s) 150000)⟩ s
  else setBrake ⟨.engaged, false, none⟩ s

/-- A release command, by the brake state (R162). -/
def commandRelease (s : State) : State :=
  match s.drives.brake.state with
  | .engaged => startReleasing s
  | .engaging => startReleasing s
  | .releasing => s
  | .released => s
  | .brakeFault => s

/-- An engage command, by the brake state (R163). -/
def commandEngage (s : State) : State :=
  match s.drives.brake.state with
  | .releasing => startEngaging s
  | .released => startEngaging s
  | .engaged => s
  | .engaging => s
  | .brakeFault => s

/-! ### Channel commands (R90, R99) -/

/-- The seek command (R90). -/
def seekChannel (c : ChannelId) (s : State) : State :=
  if (getChannel s c).state = .fault then s
  else setChannel c { getChannel s c with state := .seeking, lastDiff := none, suspectStart := none } s

/-- Abandon seek (R99). -/
def abandonSeek (c : ChannelId) (s : State) : State :=
  if (getChannel s c).state = .seeking then
    setChannel c { getChannel s c with state := .unhomed, lastDiff := none, suspectStart := none } s
  else s

/-- CLEAR of a channel (R99). -/
def clearChannel (c : ChannelId) (s : State) : State :=
  if (getChannel s c).state = .fault then
    setChannel c { getChannel s c with state := .unhomed, lastDiff := none, suspectStart := none } s
  else s

end Sys2Proof.Machine
end

