-- ==== Sys2Proof/Machine/Counters.lean ====
section
/-! DEFINITION. The counter unit's requests and the command MILLISECOND_TIMER_EXPIRY (R176, R183 to R186). COUNTER_SET,
COUNTER_READ and COUNTER_CLEAR reach it at handover (Link.lean). -/

namespace Sys2Proof.Machine

def setCounter (i : Fin 8) (c : Counter) (s : State) : State :=
  { s with counters := { s.counters with counters := s.counters.counters.set i c } }

/-! ### COUNTER_SET (R183) -/

/-- The mask without the places that name no sub-kind of the event (R183). -/
def keptMask (event : Option CounterEvent) (mask : Byte) : Byte :=
  match event with
  | none => 0
  | some e => mask &&& byteOf (2 ^ subKinds e - 1)

/-- The checks of COUNTER_SET after the counter number: the configuration to store, or none for BAD_VALUE (R183). -/
def checkConfig (event mask mode : Byte) (threshold : Word32) (action : Byte) : Option CounterConfig :=
  if event = 0 then
    if (counterActionOfCode action).isSome then some ⟨none, 0, .count, 0, .none⟩ else none
  else
    match eventOfNumber event.toNat, counterModeOfCode mode, counterActionOfCode action with
    | some e, some m, some a =>
      if modeValid m e = false ∨ (subKinds e ≠ 0 ∧ keptMask (some e) mask = 0) then none
      else some ⟨some e, keptMask (some e) mask, m, threshold.toNat, a⟩
    | _, _, _ => none

/-- A counter as COUNTER_SET leaves it; a DURATION counter whose condition stands true starts timing (R183). -/
def configured (config : CounterConfig) (conditions : Conditions) (t : Time) : Counter where
  config := config
  value := 0
  reached := false
  remainder := 0
  mark := if config.mode = .duration ∧ selectedCondition config conditions then some t else none

/-- COUNTER_SET (R183). -/
def takeCounterSet (counter event mask mode : Byte) (threshold : Word32) (action : Byte) (s : State) : State :=
  if h : counter.toNat < 8 then
    match checkConfig event mask mode threshold action with
    | none => refuse .counterSet .badValue s
    | some config =>
      accept (.counterSet counter config)
        (setCounter ⟨counter.toNat, h⟩ (configured config s.counters.conditions (now s)) s)
  else refuse .counterSet .badValue s

/-! ### COUNTER_READ and COUNTER_CLEAR (R185, R186) -/

/-- COUNTER_READ (R185). -/
def takeCounterRead (s : State) : State :=
  accept (.counterRead (s.counters.counters.toList.map (fun c => (c.value, c.reached)))) s

/-- A counter cleared at a local time (R186). -/
def clearedCounter (t : Time) (c : Counter) : Counter :=
  { c with
    value := 0
    reached := false
    remainder := 0
    mark := if c.config.mode = .duration then c.mark.map (fun _ => t) else c.mark }

/-- The counters a mask names are cleared (R186, R208). -/
def clearNamed (mask : Byte) (s : State) : State :=
  { s with counters := { s.counters with
      counters := s.counters.counters.mapIdx
        (fun i c => if mask.getLsbD i then clearedCounter (now s) c else c) } }

/-- COUNTER_CLEAR (R186). -/
def takeCounterClear (mask : Byte) (s : State) : State := accept (.counterClear mask) (clearNamed mask s)

/-! ### The millisecond timer (R176) -/

/-- A DURATION counter at an expiry of its millisecond timer (R176). -/
def millisecondTick (t : Time) (c : Counter) : Counter × Bool := increase 1 { c with remainder := 0, mark := some t }

/-- MILLISECOND_TIMER_EXPIRY (R176). -/
def execMillisecondTimerExpiry (i : Fin 8) (s : State) : Host.Outcome State Fault Refusal :=
  .next (if millisecondDue s i then offerTo (millisecondTick (now s)) s i else s)

end Sys2Proof.Machine
end

