-- ==== Sys2Proof/Machine/Regime.lean ====
section
/-! DEFINITION. The regime controller: regime changes, blends, aborts, SAFE, fault reports, law samples, and its own commands
LEAVE_INIT, RELEASE_BLEND_EXPIRY, CAPTURE_BLEND_EXPIRY and BRAKE_ENGAGED (R30 to R63). -/

namespace Sys2Proof.Machine

/-! ### Regime changes and the abort history -/

/-- A regime change with its REGIME notice (R36). -/
def changeRegime (r : Regime) (cause : Option AbortCause) (s : State) : State :=
  let changed := { s with regime := { s.regime with regime := r } }
  postRegimeNotice ⟨r, s.regime.regime, cause, alpha changed, nowMs s⟩ changed

/-- The sub-kinds of REGIME_EVENT, in mask order (R171). -/
def regimeKinds (releaseStart releaseAbort captureStart safeEntry : Bool) : Byte :=
  maskOf [releaseStart, releaseAbort, captureStart, safeEntry]

/-- A record appended at the newest end; a full history drops its oldest (R63). -/
def pushRecord (history : List AbortRecord) (r : AbortRecord) : List AbortRecord :=
  (if 8 ≤ history.length then history.drop (history.length - 7) else history) ++ [r]

/-- An abort record of the present moment (R62). -/
def makeRecord (cause : AbortCause) (toRegime : Regime) (speed : Nat) (s : State) : AbortRecord :=
  ⟨cause, s.regime.regime, toRegime, alpha s, speed, nowMs s⟩

/-- An abort record is created and appended (R62, R63). -/
def appendRecord (cause : AbortCause) (toRegime : Regime) (speed : Nat) (s : State) : State :=
  { s with regime := { s.regime with history := pushRecord s.regime.history (makeRecord cause toRegime speed s) } }

/-! ### Blends (R42) -/

def releaseBlend (s : State) : Blend :=
  ⟨.release, now s, 0, (par s).tBlend, after (now s) (1000 * (par s).tBlend)⟩

def captureBlend (alphaStart : Nat) (s : State) : Blend :=
  ⟨.capture, now s, alphaStart, (par s).tBlend, after (now s) (ceilDiv (alphaStart * 1000 * (par s).tBlend) 1024)⟩

def setBlend (b : Option Blend) (s : State) : State := { s with regime := { s.regime with blend := b } }

def setDwell (d : Option Time) (s : State) : State := { s with regime := { s.regime with dwellStart := d } }

def setPhase (p : Option HomingPhase) (s : State) : State := { s with regime := { s.regime with phase := p } }

def setSafeHolding (h : Option Bool) (s : State) : State := { s with regime := { s.regime with safeHolding := h } }

/-- RELEASE starts (R44). -/
def startRelease (s : State) : State :=
  deliver .regimeEvent (regimeKinds true false false false)
    (changeRegime .release none (setDwell none (setBlend (some (releaseBlend s)) s)))

/-- CAPTURE is complete: UPRIGHT_HOLD with the dwell start absent (R49). -/
def finishCapture (s : State) : State := changeRegime .uprightHold none (setDwell none (setBlend none s))

/-- CAPTURE starts from FREE_LEAN, without a record (R49). The REGIME notice comes before the REGIME_EVENT by the model's choice
(log 9). -/
def startCapture (s : State) : State :=
  deliver .regimeEvent (regimeKinds false false true false)
    (changeRegime .capture none (setBlend (some (captureBlend 1024 s)) s))

/-- A TRANSIENT abort of a release; a capture from α 0 is complete at its start (R46). -/
def transientAbort (cause : AbortCause) (speed : Nat) (s : State) : State :=
  let captured := deliver .regimeEvent (regimeKinds false true true false)
    (changeRegime .capture (some cause) (setBlend (some (captureBlend (alpha s) s)) (appendRecord cause .capture speed s)))
  if alpha s = 0 then finishCapture captured else captured

/-! ### SAFE (R57 to R60) -/

/-- The tilt drive at SAFE entry: OFF, or HOLD at the published λ_t (R58; log 14). -/
def safeTilt (s : State) : State :=
  if s.drives.tilt.mode = .fault ∨ ¬ angleState s.channels.tilt.state ∨ s.drives.brake.state = .engaged
      ∨ s.drives.brake.state = .brakeFault then
    setSafeHolding (some false) (commandDrive .tilt .off s)
  else setSafeHolding (some true) (commandDrive .tilt (.hold s.law.lambdaT) s)

/-- The steer drive at SAFE entry: RUN, or OFF (R59). -/
def safeSteer (s : State) : State :=
  if s.drives.steer.mode ≠ .fault ∧ angleState s.channels.steer.state ∧ angleState s.channels.bar.state then
    commandDrive .steer .run s
  else commandDrive .steer .off s

/-- On leaving HOMING for SAFE a SEEKING channel returns to UNHOMED (R56, R99). -/
def abandonHoming (s : State) : State :=
  if s.regime.regime = .homing then abandonSeek .steer (abandonSeek .tilt s) else s

/-- Entry into SAFE (R57). -/
def enterSafe (cause : AbortCause) (speed : Nat) (s : State) : State :=
  let ended := setPhase none (setDwell none (setBlend none (abandonHoming (appendRecord cause .safe speed s))))
  let moded := safeSteer (safeTilt (commandEngage ended))
  deliver .regimeEvent (regimeKinds false (s.regime.regime == .release) false true) (changeRegime .safe (some cause) moded)

/-- The tilt drive OFF in SAFE, no longer marked as holding (R58, R60). -/
def safeTiltOff (s : State) : State := setSafeHolding (some false) (commandDrive .tilt .off s)

/-- The drive effect of a further fault in SAFE (R60). -/
def safeFaultEffect (source : FaultSource) (s : State) : State :=
  match source with
  | .channel .tilt => safeTiltOff s
  | .channel .steer => commandDrive .steer .off s
  | .channel .bar => commandDrive .steer .off s
  | .drive .tilt => safeTiltOff s
  | .drive .steer => commandDrive .steer .off s
  | .brake => safeTiltOff s
  | .wheel _ => s

/-! ### Homing (R54, R55) -/

/-- In phase CREEP with neither TILT nor STEER seeking, engage is commanded and the phase becomes ENGAGING (R55). -/
def homingCheck (s : State) : State :=
  if s.regime.phase = some .creep ∧ s.channels.tilt.state ≠ .seeking ∧ s.channels.steer.state ≠ .seeking then
    setPhase (some .engaging) (commandEngage s)
  else s

/-- A channel fault taken in HOMING: that channel's drive OFF, and the homing goes on; BAR has no drive (R54; log 24). -/
def homingChannelFault (c : ChannelId) (s : State) : State :=
  match c with
  | .tilt => homingCheck (commandDrive .tilt .off s)
  | .steer => homingCheck (commandDrive .steer .off s)
  | .bar => s

/-! ### Fault reports (R35) -/

/-- The abort cause of a fault report; a wheel INVALID has none (R35, R57). -/
def faultAbortCause : FaultSource → Option AbortCause
  | .channel _ => some .channelFault
  | .drive _ => some .driveFault
  | .brake => some .brakeFault
  | .wheel _ => none

/-- What the regime controller does with a fault report, by the regime (R35, R54, R56, R57, R60). -/
def actOnFault (source : FaultSource) (s : State) : State :=
  match faultAbortCause source with
  | none => s
  | some cause =>
    match s.regime.regime with
    | .init => s
    | .parked => s
    | .homing =>
      match source with
      | .channel c => homingChannelFault c s
      | _ => enterSafe cause (speedNow s) s
    | .safe => safeFaultEffect source (appendRecord cause .safe (speedNow s) s)
    | _ => enterSafe cause (speedNow s) s

/-- The regime that a fault report leads to (the table of R35). -/
def regimeAfterFault (source : FaultSource) (r : Regime) : Regime :=
  match faultAbortCause source with
  | none => r
  | some _ =>
    match r with
    | .init => .init
    | .parked => .parked
    | .homing =>
      match source with
      | .channel _ => .homing
      | _ => .safe
    | _ => .safe

/-- The regime controller takes a fault report: it posts the FAULT notice, which carries the regime after the report, and then
acts (R35, R60). -/
def faultReport (source : FaultSource) (cause : FaultCause) (value : Int) (s : State) : State :=
  actOnFault source
    (postFaultNotice ⟨source, cause, value, regimeAfterFault source s.regime.regime, nowMs s⟩ s)

/-! ### Law samples (R33, R40, R45, R49, R60) -/

/-- The release conditions other than a known speed (R40). -/
def releaseConditions (vLaw : Nat) (s : State) : Bool :=
  decide ((par s).vFree ≤ vLaw) && (quality s != .stale) && !s.wheels.slip && !s.intake.yawSlip && allHomed s
    && !releaseInhibited s

/-- A sample with speed known in UPRIGHT_HOLD: the dwell, and the start of RELEASE (R40). -/
def dwellStep (vLaw : Nat) (s : State) : State :=
  if releaseConditions vLaw s then
    match s.regime.dwellStart with
    | none => setDwell (some (now s)) s
    | some d => if (par s).tDwell * 1000 ≤ elapsed d (now s) then startRelease s else s
  else setDwell none s

/-- The TRANSIENT cause a sample with speed known gives in RELEASE, the first in order (R45). -/
def abortCauseOf (sample : Sample) (s : State) : Option AbortCause :=
  if sample.vLaw < (par s).vLock then some .speedLow
  else if quality s = .stale then some .inertialStale
  else if s.wheels.slip ∨ s.intake.yawSlip then some .slip
  else if (par s).barRateAbort < sample.barRate.natAbs then some .barRate
  else if anySuspect s then some .channelSuspect
  else none

/-- A sample in RELEASE with speed known (R45). -/
def releaseStep (sample : Sample) (s : State) : State :=
  match abortCauseOf sample s with
  | some cause => transientAbort cause sample.vLaw s
  | none => s

/-- A sample in SAFE: a spell of unknown speed that begins leaves one record (R60, log 15). -/
def safeSampleStep (previous : Option Sample) (sample : Sample) (s : State) : State :=
  if sample.unknown = true ∧ previous.map (·.unknown) = some false then appendRecord .speedUnknown .safe sample.vLaw s
  else s

/-- A sample in a riding regime: SAFE when the speed is unknown, else the regime's own step. -/
def ridingSample (sample : Sample) (step : State → State) (s : State) : State :=
  if sample.unknown then enterSafe .speedUnknown sample.vLaw s else step s

/-- The regime controller takes a law sample: it keeps it and acts by the standing regime (R33). -/
def takeSample (sample : Sample) (s : State) : State :=
  let kept := { s with regime := { s.regime with latest := some sample } }
  match s.regime.regime with
  | .init => kept
  | .parked => kept
  | .homing => kept
  | .unlocking => ridingSample sample id kept
  | .uprightHold => ridingSample sample (dwellStep sample.vLaw) kept
  | .release => ridingSample sample (releaseStep sample) kept
  | .freeLean => ridingSample sample (fun k => if sample.vLaw < (par k).vLock then startCapture k else k) kept
  | .capture => ridingSample sample id kept
  | .locking => ridingSample sample id kept
  | .safe => safeSampleStep s.regime.latest sample kept

/-! ### The commands of the regime controller itself -/

/-- PARKED is entered with both drives OFF (R30), which may end a saturation, before the REGIME notice by the model's choice
(log 9). -/
def enterParked (s : State) : State := changeRegime .parked none (bothOff s)

/-- LEAVE_INIT: the law timer is started and the bar ring emptied (R4, R25, R32). -/
def leaveInitStep (s : State) : State :=
  let parked := enterParked s
  { parked with law := { parked.law with timer := some (after (now s) 2000), ring := [] } }

/-- LEAVE_INIT (R32). -/
def execLeaveInit (s : State) : Host.Outcome State Fault Refusal :=
  .next (if leaveInitDue s then leaveInitStep s else s)

/-- RELEASE_BLEND_EXPIRY (R48). -/
def execReleaseBlendExpiry (s : State) : Host.Outcome State Fault Refusal :=
  .next (if blendDue s .release .release then changeRegime .freeLean none (setBlend none s) else s)

/-- CAPTURE_BLEND_EXPIRY (R49). -/
def execCaptureBlendExpiry (s : State) : Host.Outcome State Fault Refusal :=
  .next (if blendDue s .capture .capture then finishCapture s else s)

/-- The ENGAGED completion, by the regime (R51, R55, R58). -/
def brakeEngagedStep (s : State) : State :=
  match s.regime.regime with
  | .locking => enterParked s
  | .homing => enterParked (setPhase none s)
  | .safe => safeTiltOff s
  | _ => s

/-- BRAKE_ENGAGED (R51, R55, R58). -/
def execBrakeEngaged (s : State) : Host.Outcome State Fault Refusal :=
  .next (if engagedDue s then brakeEngagedStep s else s)

end Sys2Proof.Machine
end

