-- ==== Sys2Proof/Machine/Channels.lean ====
section
/-! DEFINITION. The angle channels: faults, index events, the range check, homing results and timeouts, and the commands
LINE_EVENT, SUSPECT_TIMER_EXPIRY and BRAKE_RELEASED (R53, R54, R81 to R100). -/

namespace Sys2Proof.Machine

/-- Entry into FAULT with its report (R96). -/
def faultChannel (c : ChannelId) (cause : FaultCause) (value : Int) (s : State) : State :=
  faultReport (.channel c) cause value
    (setChannel c { getChannel s c with state := .fault, suspectStart := none } s)

/-- The range check, made in HOMED and SUSPECT (R95). -/
def rangeCheck (c : ChannelId) (s : State) : State :=
  match angle s c with
  | none => s
  | some a => if rangeLimit (par s) c + 500 < a.natAbs then faultChannel c .outOfRange a s else s

/-- A homing timeout: a SEEKING channel enters FAULT, any other is unchanged (R97). -/
def homingTimeout (c : ChannelId) (s : State) : State :=
  if (getChannel s c).state = .seeking then faultChannel c .homingTimeout 0 s else s

/-! ### Decoding (R81 to R85) -/

/-- A line event: no change, a legal step up or down, or an illegal transition (R81). -/
inductive LineMove where
  | none | up | down | illegal
  deriving DecidableEq, Repr

/-- The place of a line pair in the positive cycle (0,0), (1,0), (1,1), (0,1) (R81). -/
def cyclePlace (p : LinePair) : Nat :=
  match p.a, p.b with
  | false, false => 0
  | true, false => 1
  | true, true => 2
  | false, true => 3

/-- The move from one pair to another: one place along the cycle is a step of +1, one place against it a step of −1, across
it is illegal (R81). -/
def decodeMove (old new : LinePair) : LineMove :=
  match (cyclePlace new + 4 - cyclePlace old) % 4 with
  | 0 => .none
  | 1 => .up
  | 2 => .illegal
  | _ => .down

/-- The direction of a legal step. -/
def moveDirection : LineMove → Direction
  | .down => .negative
  | _ => .positive

/-- The homing result "index found" taken by the regime controller (R54). -/
def indexFound (c : ChannelId) (s : State) : State :=
  match s.regime.regime, s.regime.phase, c with
  | .homing, some .creep, .tilt => homingCheck (commandDrive .tilt (.hold 0) s)
  | .homing, some .creep, .steer => homingCheck (commandDrive .steer (.hold 0) s)
  | _, _, _ => s

/-- A channel homed with count 0 at its index (R89, R91). -/
def homeAtIndex (c : ChannelId) (s : State) : State :=
  setChannel c { getChannel s c with state := .homed, count := 0, lastDiff := none } s

/-- An index event in HOMED or SUSPECT: the difference is kept and compared with 2 (R93). -/
def confirmIndex (c : ChannelId) (s : State) : State :=
  let ch := getChannel s c
  let noted := { ch with lastDiff := some ch.count.toInt }
  if ch.count.toInt.natAbs ≤ 2 then
    setChannel c { noted with state := .homed, count := 0, suspectStart := none } s
  else faultChannel c .indexMismatch ch.count.toInt (setChannel c noted s)

/-- An index event, in the state that stands when the step is taken (R85, R89, R91, R93, R96). -/
def indexEvent (c : ChannelId) (s : State) : State :=
  match (getChannel s c).state with
  | .unhomed => if c = .bar then homeAtIndex c s else s
  | .seeking => indexFound c (homeAtIndex c s)
  | .homed => confirmIndex c s
  | .suspect => confirmIndex c s
  | .fault => s

/-- The direction test of a legal step (R83). -/
def directionTest (c : ChannelId) (d : Direction) (s : State) : State :=
  if (getChannel s c).direction = d then s
  else deliver .reversal (channelKind c) (setChannel c { getChannel s c with direction := d } s)

/-- The count after a legal step, in two's complement (R82). -/
def stepCount (m : LineMove) (count : BitVec 32) : BitVec 32 :=
  match m with
  | .down => count - 1
  | _ => count + 1

/-- A legal step: count, direction test, index event, range check, in this order (R82). -/
def legalStep (c : ChannelId) (m : LineMove) (lines : LinePair) (z : Bool) (s : State) : State :=
  let ch := getChannel s c
  let stepped := setChannel c { ch with count := stepCount m ch.count, lines := lines } s
  let tested := directionTest c (moveDirection m) stepped
  rangeCheck c (if lines = ⟨false, false⟩ ∧ z then indexEvent c tested else tested)

/-- An illegal transition: the tally, SUSPECT from HOMED, and one QUAD_ERROR (R84, R92). -/
def illegalTransition (c : ChannelId) (lines : LinePair) (s : State) : State :=
  let ch := getChannel s c
  let noted := { ch with lines := lines, tally := min 65535 (ch.tally + 1) }
  deliver .quadError (channelKind c)
    (setChannel c (if ch.state = .homed then { noted with state := .suspect, suspectStart := some (now s) } else noted) s)

/-- A line event by its move (R81, R82, R84). -/
def lineStep (c : ChannelId) (lines : LinePair) (z : Bool) (s : State) : State :=
  match decodeMove (getChannel s c).lines lines with
  | .none => s
  | .illegal => illegalTransition c lines s
  | .up => legalStep c .up lines z s
  | .down => legalStep c .down lines z s

/-- LINE_EVENT (R82). -/
def execLineEvent (c : ChannelId) (lines : LinePair) (z : Bool) (s : State) : Host.Outcome State Fault Refusal :=
  .next (lineStep c lines z s)

/-- SUSPECT_TIMER_EXPIRY: FAULT with the tally as cause value (R94, R96). -/
def execSuspectTimerExpiry (c : ChannelId) (s : State) : Host.Outcome State Fault Refusal :=
  .next (if suspectDue s c then faultChannel c .suspectTimeout (getChannel s c).tally s else s)

/-! ### The creep phase of homing (R53) -/

/-- The command to one drive as the creep phase begins, by the state of its channel (R53). -/
def creepStart (d : DriveId) (s : State) : State :=
  match (getChannel s (driveChannel d)).state with
  | .seeking =>
    if (getDrive s d).mode = .fault then homingTimeout (driveChannel d) s else commandDrive d .creep s
  | .homed => commandDrive d (.hold 0) s
  | .suspect => commandDrive d (.hold 0) s
  | .fault => commandDrive d .off s
  | .unhomed => s

/-- The RELEASED completion, by the regime (R39, R53). -/
def brakeReleasedStep (s : State) : State :=
  match s.regime.regime with
  | .unlocking => changeRegime .uprightHold none (setDwell none s)
  | .homing => homingCheck (creepStart .steer (creepStart .tilt (setPhase (some .creep) s)))
  | _ => s

/-- The side switch levels as sampled by a command (R101, log 4). -/
def sampleSides (tside sside : Bool) (s : State) : State :=
  { s with pins := { s.pins with tside := tside, sside := sside } }

/-- BRAKE_RELEASED (R39, R53). -/
def execBrakeReleased (tside sside : Bool) (s : State) : Host.Outcome State Fault Refusal :=
  .next (if releasedDue s then brakeReleasedStep (sampleSides tside sside s) else s)

/-- CLEAR of the three channels (R61, R99). -/
def clearChannels (s : State) : State := clearChannel .bar (clearChannel .steer (clearChannel .tilt s))

/-- A CPR change makes the channel UNHOMED from any state (R100). -/
def unhomeChannel (c : ChannelId) (s : State) : State :=
  setChannel c { getChannel s c with state := .unhomed, lastDiff := none, suspectStart := none } s

end Sys2Proof.Machine
end

