-- ==== Sys2Proof/Machine/Brake.lean ====
section
/-! DEFINITION. The tilt brake: its contact, its timer and its fault, and the commands BRKS_RISE, BRKS_FALL and
BRAKE_TIMER_EXPIRY (R161 to R168). -/

namespace Sys2Proof.Machine

/-- Entry into BRAKE_FAULT with its report (R168). -/
def faultBrake (cause : FaultCause) (s : State) : State :=
  faultReport .brake cause 0 (setBrake ⟨.brakeFault, false, none⟩ s)

def setBrks (level : Bool) (s : State) : State := { s with pins := { s.pins with brks := level } }

/-- A rise of BRKS, by the brake state (R164, R167). -/
def brksRiseStep (s : State) : State :=
  match s.drives.brake.state with
  | .releasing => setBrake ⟨.released, s.drives.brake.output, none⟩ (setBrks true s)
  | .engaged => faultBrake .senseRaised (setBrks true s)
  | .released => setBrks true s
  | .engaging => setBrks true s
  | .brakeFault => setBrks true s

/-- A fall of BRKS, by the brake state (R165, R167). -/
def brksFallStep (s : State) : State :=
  match s.drives.brake.state with
  | .engaging => setBrake ⟨.engaged, s.drives.brake.output, none⟩ (setBrks false s)
  | .released => faultBrake .senseLost (setBrks false s)
  | .engaged => setBrks false s
  | .releasing => setBrks false s
  | .brakeFault => setBrks false s

/-- The brake timer's expiry, by the brake state (R166). -/
def brakeTimeoutStep (s : State) : State :=
  match s.drives.brake.state with
  | .releasing => faultBrake .releaseTimeout s
  | .engaging => faultBrake .engageTimeout s
  | .engaged => s
  | .released => s
  | .brakeFault => s

/-- CLEAR of the brake: ENGAGING from BRAKE_FAULT (R61, R168). -/
def clearBrake (s : State) : State := if s.drives.brake.state = .brakeFault then startEngaging s else s

/-- BRKS_RISE (R164, R167). -/
def execBrksRise (s : State) : Host.Outcome State Fault Refusal := .next (brksRiseStep s)

/-- BRKS_FALL (R165, R167). -/
def execBrksFall (s : State) : Host.Outcome State Fault Refusal := .next (brksFallStep s)

/-- BRAKE_TIMER_EXPIRY (R166). -/
def execBrakeTimerExpiry (s : State) : Host.Outcome State Fault Refusal :=
  .next (if brakeTimerDue s then brakeTimeoutStep s else s)

end Sys2Proof.Machine
end

