-- ==== Sys2Proof/Machine/Drives.lean ====
section
/-! DEFINITION. The bridge drives: PWM boundary, position loop, creep, overcurrent and faults, and the commands PWM_BOUNDARY,
LOOP_EXPIRY, OVERCURRENT_CUT and CREEP_TIMER_EXPIRY (R149 to R160). -/

namespace Sys2Proof.Machine

/-- A drive record in FAULT: bridge off, duties and cut run 0, timers and targets absent (R160). -/
def faultedDrive (r : Drive) : Drive :=
  { r with
    mode := .fault
    holdTarget := none
    ePrev := none
    shadow := 0
    active := 0
    cutRun := 0
    cutFlag := false
    satStart := none
    creepTimer := none
    dir := false }

/-- Entry of a drive into FAULT with its report (R160). -/
def faultDrive (d : DriveId) (cause : FaultCause) (value : Int) (s : State) : State :=
  faultReport (.drive d) cause value (endSaturation d (setDrive d (faultedDrive (getDrive s d)) s))

/-! ### Overcurrent (R158, R159) -/

/-- The overload test: FAULT when the cut run has reached 400 (R159). -/
def overloadTest (d : DriveId) (s : State) : State :=
  if 400 ≤ (getDrive s d).cutRun then faultDrive d .overload (getDrive s d).active s else s

/-- An overcurrent cut of the running period (R158). -/
def cutPeriod (d : DriveId) (s : State) : State :=
  if (getDrive s d).cutFlag then overloadTest d s
  else overloadTest d
    (deliver .driveCut (driveKind d)
      (setDrive d { getDrive s d with cutFlag := true, cutRun := (getDrive s d).cutRun + 1 } s))

/-! ### The period boundary (R149, R159) -/

/-- The record at a boundary: the overload step, the shadow taken as the active duty, DIR (R149). -/
def boundaryRecord (r : Drive) : Drive :=
  { r with
    cutRun := if r.cutFlag then r.cutRun else 0
    active := r.shadow
    cutFlag := false
    dir := decide (0 < r.shadow) }

/-- One drive at a boundary; a line asserted as the output would rise is a cut (R149, R158). -/
def driveBoundary (d : DriveId) (line : Bool) (s : State) : State :=
  let begun := setDrive d (boundaryRecord (getDrive s d)) s
  if line && decide ((getDrive s d).shadow ≠ 0) then cutPeriod d begun else begun

/-- The overcurrent lines sampled at a boundary, which starts a period (log 4). -/
def beginPeriod (toc soc : Bool) (s : State) : State :=
  { s with pins := { s.pins with toc := toc, soc := soc }, drives := { s.drives with periodStart := now s } }

/-- PWM_BOUNDARY (R149). -/
def execPwmBoundary (toc soc : Bool) (s : State) : Host.Outcome State Fault Refusal :=
  .next (if boundaryDue s then driveBoundary .steer soc (driveBoundary .tilt toc (beginPeriod toc soc s)) else s)

/-- OVERCURRENT_CUT (R158). -/
def execOvercurrentCut (d : DriveId) (s : State) : Host.Outcome State Fault Refusal :=
  .next (if pwmHigh s d then cutPeriod d s else s)

/-! ### The position loop (R151 to R156) -/

/-- The proportional gain of a drive (R152). -/
def gainP (p : Params) : DriveId → Nat
  | .tilt => p.kpTilt
  | .steer => p.kpSteer

/-- The derivative gain of a drive (R152). -/
def gainD (p : Params) : DriveId → Nat
  | .tilt => p.kdTilt
  | .steer => p.kdSteer

/-- The duty of an error and the error before it (R152). -/
def loopDuty (kp kd uMax : Nat) (e ePrev : Int) : Int := clampSym uMax (roundDiv (kp * e + kd * (e - ePrev)) 256)

/-- The target of a drive in RUN or HOLD (R152). -/
def loopTarget (s : State) (d : DriveId) : Int :=
  match (getDrive s d).mode with
  | .hold => (getDrive s d).holdTarget.getD 0
  | _ => publishedTarget s d

/-- The saturation test: the sub-condition, delivered at each change (R154). -/
def saturationTest (d : DriveId) (full : Bool) (s : State) : State :=
  if (getDrive s d).saturated = full then s
  else deliverSaturated d full (setDrive d { getDrive s d with saturated := full } s)

/-- The tracking test (R155). -/
def trackingTest (d : DriveId) (full : Bool) (e : Int) (s : State) : State :=
  if full ∧ 300 < e.natAbs then
    match (getDrive s d).satStart with
    | none => setDrive d { getDrive s d with satStart := some (now s) } s
    | some t => if 250000 ≤ elapsed t (now s) then faultDrive d .tracking e s else s
  else setDrive d { getDrive s d with satStart := none } s

/-- The loop computation with the channel's angle present (R152). -/
def loopComputation (d : DriveId) (a : Int) (s : State) : State :=
  let e := loopTarget s d - a
  let u := loopDuty (gainP (par s) d) (gainD (par s) d) (par s).uMax e ((getDrive s d).ePrev.getD e)
  let full := decide (u.natAbs = (par s).uMax)
  trackingTest d full e (saturationTest d full (setDrive d { getDrive s d with shadow := u, ePrev := some e } s))

/-- The absent-angle step (R153). -/
def absentAngleStep (d : DriveId) (s : State) : State :=
  endSaturation d (setDrive d { getDrive s d with shadow := 0, ePrev := none, satStart := none } s)

/-- One drive at a loop expiry, by its mode (R151). -/
def driveLoop (d : DriveId) (s : State) : State :=
  let looped :=
    match angle s (driveChannel d) with
    | some a => loopComputation d a s
    | none => absentAngleStep d s
  match (getDrive s d).mode with
  | .run => looped
  | .hold => looped
  | .creep => setDrive d { getDrive s d with shadow := creepDuty s d } s
  | .off => s
  | .fault => s

def beginLoop (s : State) : State := { s with drives := { s.drives with latestLoop := now s } }

/-- LOOP_EXPIRY (R151). -/
def execLoopExpiry (tside sside : Bool) (s : State) : Host.Outcome State Fault Refusal :=
  .next (if loopDue s then driveLoop .steer (driveLoop .tilt (beginLoop (sampleSides tside sside s))) else s)

/-! ### The creep timer (R54, R157) -/

/-- The creep timeout report taken by the regime controller (R54). -/
def creepTimeoutTaken (d : DriveId) (s : State) : State :=
  match s.regime.regime with
  | .homing => homingCheck (commandDrive d .off (homingTimeout (driveChannel d) s))
  | _ => s

/-- CREEP_TIMER_EXPIRY (R157). -/
def execCreepTimerExpiry (d : DriveId) (s : State) : Host.Outcome State Fault Refusal :=
  .next (if creepDue s d then creepTimeoutTaken d (setDrive d { getDrive s d with creepTimer := none } s) else s)

/-! ### Changes of U_MAX and CLEAR (R61, R150) -/

/-- Both duties clamped to a new U_MAX (R150). -/
def clampDuties (uMax : Nat) (r : Drive) : Drive :=
  { r with shadow := clampSym uMax r.shadow, active := clampSym uMax r.active }

/-- A change of U_MAX in both drives (R150). -/
def uMaxChanged (s : State) : State :=
  { s with drives := { s.drives with
      tilt := clampDuties (par s).uMax s.drives.tilt
      steer := clampDuties (par s).uMax s.drives.steer } }

/-- CLEAR of a drive: OFF from FAULT (R61, R160). -/
def clearDrive (d : DriveId) (s : State) : State :=
  if (getDrive s d).mode = .fault then enterOff d s else s

end Sys2Proof.Machine
end

