-- ==== Sys2Proof/Machine/Law.lean ====
section
/-! DEFINITION. The law engine: stages L1 to L8 and S1 to S5, the bar ring, the target-set request, the limit clamps, and the
command LAW_EXPIRY (R4 to R29, R65 to R78). -/

namespace Sys2Proof.Machine

/-! ### The lean stages -/

/-- What stage L1 produces (R12). -/
structure MapValues where
  kc : Int
  kcs : Int
  lmax : Int
  deriving DecidableEq, Repr

/-- One field interpolated, the quotient truncated (R12). -/
def interpolate (from_ to_ vLaw speed nextSpeed : Nat) : Int :=
  from_ + truncDiv (((to_ : Int) - from_) * ((vLaw : Int) - speed)) ((nextSpeed : Int) - speed)

/-- The values between two neighbouring points (R12). -/
def between (p q : MapPoint) (vLaw : Nat) : MapValues :=
  ⟨interpolate p.kc q.kc vLaw p.speed q.speed, interpolate p.kcs q.kcs vLaw p.speed q.speed,
   interpolate p.lmax q.lmax vLaw p.speed q.speed⟩

/-- The values at a point as it stands (R12). -/
def atPoint (p : MapPoint) : MapValues := ⟨p.kc, p.kcs, p.lmax⟩

/-- The search for the pair of points around v_law; the last point as it stands at and above its speed (R12). -/
def lookupFrom (p : MapPoint) (vLaw : Nat) : List MapPoint → MapValues
  | [] => atPoint p
  | q :: rest => if vLaw < q.speed then between p q vLaw else lookupFrom q vLaw rest

/-- Stage L1 (R12). -/
def mapLookup (m : Vector MapPoint 9) (vLaw : Nat) : MapValues := lookupFrom m[0] vLaw (m.toList.drop 1)

/-- Stage L2: the curvature (R13). -/
def curvature (b kc : Int) : Int := clampSym 5000 (roundDiv (b * kc) 1000)

/-- The rounded lateral acceleration before its clamp (R14). -/
def rawAcceleration (vLaw : Nat) (kappa : Int) : Int := roundDiv ((vLaw : Int) * vLaw * kappa) 100000

/-- Stage L4: the magnitude of the balance lean (R16). An index above 12 cannot come: the acceleration is clamped (log 23). -/
def balanceMagnitude (a : Nat) : Nat :=
  let i := a / 750
  let r := a % 750
  let t := balanceTable.getD i 4254
  if r = 0 then t else t + ((balanceTable.getD (i + 1) 4254 - t) * r + 375) / 750

/-- Stage L4: the balance lean, with the sign of a (R16). -/
def balanceLean (a : Int) : Int := if a < 0 then -(balanceMagnitude a.natAbs : Int) else balanceMagnitude a.natAbs

/-- Stage L5: the effective lean limit (R17). -/
def effectiveLimit (lmax : Int) (capValue tiltLimit : Nat) (cEst : Int) : Int :=
  max 0 (min (lmax * capValue / 1024) ((tiltLimit : Int) - cEst.natAbs))

/-- Stage L6: the demanded lean (R18). -/
def demandedLean (alphaValue : Nat) (phiF : Int) : Int := roundDiv (alphaValue * phiF) 1024

/-- The regimes in which the lean target is rate-limited (R19). -/
def leanMoves : Regime → Bool
  | .uprightHold | .release | .freeLean | .capture => true
  | .init | .parked | .homing | .unlocking | .locking | .safe => false

/-- Stage L7: the lean target and the RATE flag, by the regime (R19, R20, R21). -/
def leanTarget (r : Regime) (step : Nat) (phiT phiD cEst : Int) (lambdaM : Option Int) : Int × Bool :=
  if leanMoves r then moveToward step phiT phiD
  else if r = .parked then ((lambdaM.map (fun m => m + cEst)).getD 0, false)
  else (phiT, false)

/-- Stage L8: the linkage target (R23). -/
def linkageTarget (phiT cEst : Int) (tiltLimit : Nat) : Int := clampSym tiltLimit (phiT - cEst)

/-! ### The steer stages -/

/-- Stage S1 (R67). -/
def directSteer (b : Int) (ratio : Nat) : Int := roundDiv (b * ratio) 256

/-- Stage S2 (R68). -/
def kinematicSteer (kappa : Int) (wheelbase : Nat) : Int := roundDiv (wheelbase * kappa * 5730) 10000000

/-- Stage S3: the lead, 0 when λ_m is absent (R69). -/
def steerLead (kcs phiT cEst : Int) (lambdaM : Option Int) : Int :=
  match lambdaM with
  | none => 0
  | some m => roundDiv (kcs * (phiT - (m + cEst))) 256

/-- Stage S4 before its clamp (R70). -/
def rawSteerDemand (r : Regime) (alphaValue : Nat) (lean direct : Int) : Int :=
  if r = .safe then direct else roundDiv (alphaValue * lean + (1024 - (alphaValue : Int)) * direct) 1024

/-- The cases in which the steer target is rate-limited (R71). -/
def steerMoves (r : Regime) (steerMode : DriveMode) : Bool :=
  match r with
  | .unlocking | .uprightHold | .release | .freeLean | .capture | .locking => true
  | .safe => steerMode == .run
  | .init | .parked | .homing => false

/-- The tracking value: δ_m clamped, or 0 when absent (R73, R75). -/
def trackedSteer (deltaM : Option Int) (steerLimit : Nat) : Int := (deltaM.map (clampSym steerLimit)).getD 0

/-- Stage S5: the steer target and the RATE flag (R71 to R73). -/
def steerTarget (r : Regime) (steerMode : DriveMode) (step steerLimit : Nat) (deltaT deltaD : Int)
    (deltaM : Option Int) : Int × Bool :=
  if steerMoves r steerMode then moveToward step deltaT deltaD else (trackedSteer deltaM steerLimit, false)

/-! ### One law computation -/

/-- Inputs of a law computation, read once at the expiry (R7 to R9, R66). -/
structure LawInputs where
  vLaw : Nat
  unknown : Bool
  bar : BarInput
  lambdaM : Option Int
  deltaM : Option Int
  cEst : Int
  cap : Nat
  alpha : Nat
  regime : Regime
  steerMode : DriveMode
  deriving DecidableEq, Repr

/-- The bar input: the BAR angle with bar-valid, or 0 without (R8). -/
def barInput (a : Option Int) : BarInput :=
  match a with
  | some b => ⟨b, true⟩
  | none => ⟨0, false⟩

/-- The inputs as they stand (R7 to R10). -/
def readInputs (s : State) : LawInputs where
  vLaw := speedNow s
  unknown := (selectedSpeed s).isNone
  bar := barInput (angle s .bar)
  lambdaM := angle s .tilt
  deltaM := angle s .steer
  cEst := s.intake.cEst
  cap := cap s
  alpha := alpha s
  regime := s.regime.regime
  steerMode := s.drives.steer.mode

/-- What a law computation produces: the targets and the flags (R6). -/
structure LawResult where
  kappa : Int
  kcs : Int
  phiT : Int
  lambdaT : Int
  deltaT : Int
  flags : LeanFlags
  steerFlags : SteerFlags
  deriving DecidableEq, Repr

/-- Stages L1 to L8 and S1 to S5 (R6), from the inputs, the calibration and the targets φ_t and δ_t before. -/
def computeLaw (i : LawInputs) (cal : Calibration) (phiT deltaT : Int) : LawResult :=
  let p := cal.params
  let m := mapLookup cal.map i.vLaw
  let kappa := curvature i.bar.b m.kc
  let aRaw := rawAcceleration i.vLaw kappa
  let phiB := balanceLean (clampSym p.aMax aRaw)
  let lEff := effectiveLimit m.lmax i.cap p.tiltLimit i.cEst
  let phiD := demandedLean i.alpha (clampTo (-lEff) lEff phiB)
  let lean := leanTarget i.regime (p.leanRate * 2 / 1000) phiT phiD i.cEst i.lambdaM
  let deltaLean := kinematicSteer kappa p.wheelbase - steerLead m.kcs lean.1 i.cEst i.lambdaM
  let deltaRaw := rawSteerDemand i.regime i.alpha deltaLean (directSteer i.bar.b p.steerRatioLow)
  let steer := steerTarget i.regime i.steerMode (p.steerRate * 2 / 1000) p.steerLimit deltaT
    (clampSym p.steerLimit deltaRaw) i.deltaM
  { kappa := kappa
    kcs := m.kcs
    phiT := lean.1
    lambdaT := linkageTarget lean.1 i.cEst p.tiltLimit
    deltaT := steer.1
    flags := ⟨decide (p.aMax < aRaw.natAbs), decide (lEff < phiB.natAbs), lean.2⟩
    steerFlags := ⟨decide (p.steerLimit < deltaRaw.natAbs), steer.2⟩ }

/-! ### The bar ring (R25, R26) -/

/-- The newest sample appended; a full ring drops its oldest first (R25). -/
def pushBar (ring : List Int) (b : Int) : List Int :=
  (if 6 ≤ ring.length then ring.drop (ring.length - 5) else ring) ++ [b]

/-- The bar rate after the newest sample b (R26). -/
def barRate (ring : List Int) (b : Int) : Int := (b - ring.headD b) * 100

/-! ### LAW_EXPIRY -/

/-- The law engine after a computation: targets, flags, ring, latest b and cap (R5, R6). -/
def lawAfter (l : Law) (i : LawInputs) (r : LawResult) (next : Time) : Law where
  timer := some next
  phiT := r.phiT
  lambdaT := r.lambdaT
  deltaT := r.deltaT
  ring := pushBar l.ring i.bar.b
  flags := r.flags
  steerFlags := r.steerFlags
  latestB := some i.bar
  latestCap := i.cap

/-- The law engine's deliveries to the counter unit: LAW_CLAMP, a change of LEAN_LIMITED, STEER_CLAMP (R27, R28, R77), in
this order by the model's choice (log 9). -/
def reportClamps (limitBefore : Bool) (f : LeanFlags) (g : SteerFlags) (s : State) : State :=
  let clamped := if f.accel || f.limit || f.rate then deliver .lawClamp (maskOf [f.accel, f.limit, f.rate]) s else s
  let limited := if f.limit = limitBefore then clamped else deliverLeanLimited f.limit clamped
  if g.range || g.rate then deliver .steerClamp (maskOf [g.range, g.rate]) limited else limited

/-- One law computation, whole: inputs, stages, ring, reports, law sample (R6). DESIGN CHOICE (log 9, unsafe): R6 leaves the
order of the deliveries open, and the counter unit is told before the regime controller takes the law sample. -/
def lawStep (s : State) : State :=
  let i := readInputs s
  let r := computeLaw i s.store.working s.law.phiT s.law.deltaT
  let l := lawAfter s.law i r (after (now s) 2000)
  takeSample ⟨i.vLaw, i.unknown, barRate l.ring i.bar.b⟩
    (reportClamps s.law.flags.limit r.flags r.steerFlags { s with law := l })

/-- LAW_EXPIRY (R4, R6). -/
def execLawExpiry (s : State) : Host.Outcome State Fault Refusal := .next (if lawDue s then lawStep s else s)

/-! ### Requests to the law engine -/

/-- The target-set request of RIDE acceptance (R22, R75). -/
def targetSet (s : State) : State :=
  let phiT := (angle s .tilt).getD 0 + s.intake.cEst
  { s with law := { s.law with
      phiT := phiT
      lambdaT := linkageTarget phiT s.intake.cEst (par s).tiltLimit
      deltaT := trackedSteer (angle s .steer) (par s).steerLimit } }

/-- A TILT_LIMIT change clamps the published λ_t (R24). -/
def clampLambda (s : State) : State :=
  { s with law := { s.law with lambdaT := clampSym (par s).tiltLimit s.law.lambdaT } }

/-- A STEER_LIMIT change clamps the published δ_t (R76). -/
def clampDelta (s : State) : State :=
  { s with law := { s.law with deltaT := clampSym (par s).steerLimit s.law.deltaT } }

end Sys2Proof.Machine
end

