-- ==== Sys2Proof/Machine/Intake.lean ====
section
/-! DEFINITION. The motion intake: form, ageing, freshness, camber and yaw of motion reports, and the command
FRESHNESS_DEADLINE_EXPIRY (R132 to R143). The command MOTION is in Link.lean, since a report arrives at its handover. -/

namespace Sys2Proof.Machine

/-- A well-formed report (R132). -/
structure Report where
  frame : Half
  yaw : Option Int
  roll : Option Int
  deriving DecidableEq, Repr

/-- A saturated value: ±bound (R132). -/
def saturate (bound : Nat) (v : Half) : Int := clampSym bound v.toInt

/-- The form check of R132: none for a malformed report, else its values, saturated. -/
def parseReport (payload : List Byte) : Option Report :=
  let flags := byteAt payload 2
  let yawIn := flags.getLsbD 0
  let rollIn := flags.getLsbD 1
  if payload.length < 3 ∨ (yawIn = false ∧ rollIn = false)
      ∨ payload.length ≠ 3 + 2 * (yawIn.toNat + rollIn.toNat) then none
  else some
    { frame := halfAt payload 0
      yaw := if yawIn then some (saturate 30000 (halfAt payload 3)) else none
      roll := if rollIn then some (saturate 6000 (halfAt payload (if yawIn then 5 else 3))) else none }

/-- How a well-formed report is aged (R133). -/
inductive Ageing where
  | aged (age : Nat)
  | unaged
  | late
  | future
  deriving DecidableEq, Repr

/-- Reports are aged when the aligned flag is set in LOCKED or HOLDOVER (R133). -/
def ageing (t : TimeBase) (frame : Half) : Ageing :=
  if t.aligned ∧ (t.sync = .locked ∨ t.sync = .holdover) then
    if (t.frameCount - frame).toNat ≤ 2 then .aged (t.frameCount - frame).toNat
    else if (t.frameCount - frame).toNat ≤ 32767 then .late else .future
  else .unaged

/-- The sub-kinds of MOTION_REPORT, in mask order (R171). -/
def reportKinds (fresh unaged late future malformed : Bool) : Byte := maskOf [fresh, unaged, late, future, malformed]

/-- A change of the intake, with the INERTIAL_DEGRADED condition delivered when the quality changes (R138). -/
def changeIntake (i : Intake) (s : State) : State :=
  let changed := { s with intake := i }
  if qualityOf i = quality s then changed else deliverDegraded (qualityOf i) changed

/-- The freshness step (R136). -/
def freshnessStep (kind : RollKind) (s : State) : State :=
  changeIntake { s.intake with latestRoll := some kind, deadline := some (after (now s) 20000) } s

/-- The camber estimate after a measurement (R139). -/
def camberAfter (limit : Nat) (cEst cMeas : Int) : Int := clampSym limit (cEst + roundDiv (cMeas - cEst) 8)

/-- The camber step, made when λ_m is present (R139). -/
def camberStep (roll : Int) (s : State) : State :=
  match angle s .tilt with
  | none => s
  | some lambdaM =>
    { s with intake := { s.intake with cEst := camberAfter (par s).camberLimit s.intake.cEst (roll - lambdaM) } }

/-- Yaw slip is set or cleared, and the SLIP_ACTIVE sub-condition YAW delivered (R143). -/
def changeYawSlip (v : Bool) (s : State) : State :=
  if s.intake.yawSlip = v then s else deliverSlipYaw v { s with intake := { s.intake with yawSlip := v } }

/-- The kinematic yaw rate (R141). -/
def kinematicYaw (vLaw : Nat) (deltaM : Int) (wheelbase : Nat) : Int := roundDiv (vLaw * deltaM * 10) wheelbase

/-- The runs and yaw slip after a verdict (R142). -/
def yawVerdict (mismatch : Bool) (s : State) : State :=
  if mismatch then
    let run := min 3 (s.intake.mismatchRun + 1)
    let counted := { s with intake := { s.intake with mismatchRun := run, matchRun := 0 } }
    if run = 3 then changeYawSlip true counted else counted
  else
    let run := min 3 (s.intake.matchRun + 1)
    let counted := { s with intake := { s.intake with matchRun := run, mismatchRun := 0 } }
    if run = 3 then changeYawSlip false counted else counted

/-- The yaw check, made with quality FRESH, the speed known and at least V_FREE, and STEER HOMED (R141). -/
def yawCheck (yaw : Int) (s : State) : State :=
  match selectedSpeed s, angle s .steer with
  | some vLaw, some deltaM =>
    if quality s = .fresh ∧ (par s).vFree ≤ vLaw ∧ s.channels.steer.state = .homed then
      yawVerdict (decide ((par s).yawTol < (yaw - kinematicYaw vLaw deltaM (par s).wheelbase).natAbs)) s
    else s
  | _, _ => s

/-- The roll part of an accepted report: freshness, then camber (R134). -/
def takeRoll (kind : RollKind) (roll : Option Int) (s : State) : State :=
  match roll with
  | none => s
  | some v => camberStep v (freshnessStep kind s)

/-- The yaw part of an accepted report (R134). -/
def takeYaw (yaw : Option Int) (s : State) : State :=
  match yaw with
  | none => s
  | some v => yawCheck v s

/-- An accepted report is taken (R134). -/
def takeAccepted (kind : RollKind) (r : Report) (s : State) : State := takeYaw r.yaw (takeRoll kind r.roll s)

/-- A motion report arrives (R132, R133). DESIGN CHOICE (log 9, unsafe): R133 gives the MOTION_REPORT and the REPORT_AGE event of
an aged report no order, and MOTION_REPORT is counted first, both before the steps of R134. -/
def takeMotion (payload : List Byte) (s : State) : State :=
  match parseReport payload with
  | none => deliver .motionReport (reportKinds false false false false true) s
  | some r =>
    match ageing s.timeBase r.frame with
    | .aged age =>
      takeAccepted .aged r (deliverAge age (deliver .motionReport (reportKinds true false false false false) s))
    | .unaged => takeAccepted .unaged r (deliver .motionReport (reportKinds false true false false false) s)
    | .late => deliver .motionReport (reportKinds false false true false false) s
    | .future => deliver .motionReport (reportKinds false false false true false) s

/-- The freshness deadline expires (R137). -/
def loseFreshness (s : State) : State :=
  let stale := changeIntake { s.intake with deadline := none, mismatchRun := 0, matchRun := 0 } s
  changeYawSlip false stale

/-- FRESHNESS_DEADLINE_EXPIRY (R137). -/
def execFreshnessDeadlineExpiry (s : State) : Host.Outcome State Fault Refusal :=
  .next (if deadlineDue s then loseFreshness s else s)

/-- A change of CAMBER_LIMIT clamps c_est (R140). -/
def camberLimitChanged (s : State) : State :=
  { s with intake := { s.intake with cEst := clampSym (par s).camberLimit s.intake.cEst } }

end Sys2Proof.Machine
end

