-- ==== Sys2Proof/Machine/TimeBase.lean ====
section
/-! DEFINITION. The time base: strobes, missed strobes, entry into UNSYNCED, and the commands STROBE and MISSED_STROBE (R122
to R129, R131). -/

namespace Sys2Proof.Machine

def setTimeBase (t : TimeBase) (s : State) : State := { s with timeBase := t }

/-- The TIMEBASE notice of a change of sync state, with the state just after it (R128). -/
def noteSync (previous : Sync) (s : State) : State :=
  if s.timeBase.sync = previous then s
  else postTimebaseNotice ⟨s.timeBase.sync, previous, s.timeBase.frameCount, s.timeBase.aligned, nowMs s⟩ s

/-- The time base moves to a new state, posting the notice of any sync change (R128). -/
def changeTimeBase (t : TimeBase) (s : State) : State := noteSync s.timeBase.sync (setTimeBase t s)

/-- Entry into UNSYNCED (R129). -/
def enterUnsynced (s : State) : State :=
  changeTimeBase
    { s.timeBase with sync := .unsynced, gridStart := none, aligned := false, goodRun := 0, missedRun := 0 } s

/-- A boundary with a fine position of `fine` now (R122). -/
def markBoundary (fine : Nat) (t : TimeBase) : TimeBase := { t with gridStart := some (before t.localTime fine) }

/-- The frame count advanced, modulo 65536 (R122). -/
def advanceFrame (t : TimeBase) : TimeBase := { t with frameCount := t.frameCount + 1 }

/-- A strobe is early when the fine position is below P − W (R123, log 17). -/
def isEarly (p : Params) (fine : Nat) : Bool := decide (fine + p.strobeWindow < p.framePeriod)

/-- The sub-kinds of STROBE, in mask order (R171). -/
def strobeKinds (good early missed : Bool) : Byte := maskOf [good, early, missed]

/-- The first strobe in UNSYNCED starts a grid (R124). -/
def startGrid (s : State) : State :=
  changeTimeBase (markBoundary 0 { s.timeBase with sync := .syncing, goodRun := 1, missedRun := 0 }) s

/-- The time base after a good strobe, by the sync state (R125, R126, R127). -/
def afterGood (t : TimeBase) : TimeBase :=
  let b := advanceFrame (markBoundary 0 t)
  match t.sync with
  | .unsynced => t
  | .syncing =>
    if t.goodRun + 1 = 4 then { b with goodRun := 4, missedRun := 0, sync := .locked }
    else { b with goodRun := t.goodRun + 1 }
  | .locked => { b with missedRun := 0 }
  | .holdover =>
    if t.goodRun + 1 = 4 then { b with goodRun := 4, missedRun := 0, sync := .locked }
    else { b with goodRun := t.goodRun + 1, missedRun := 0 }

/-- The time base after an early strobe, by the sync state (R125, R126, R127). -/
def afterEarly (t : TimeBase) : TimeBase :=
  match t.sync with
  | .unsynced => t
  | .syncing => { markBoundary 0 t with goodRun := 1 }
  | .locked => t
  | .holdover => { t with goodRun := 0 }

/-- A strobe (R123, R124). -/
def strobeStep (s : State) : State :=
  match s.timeBase.sync, finePosition s with
  | .unsynced, _ => startGrid s
  | _, none => startGrid s
  | _, some fine =>
    if isEarly (par s) fine then deliver .strobe (strobeKinds false true false) (changeTimeBase (afterEarly s.timeBase) s)
    else deliver .strobe (strobeKinds true false false) (changeTimeBase (afterGood s.timeBase) s)

/-- STROBE (R123). -/
def execStrobe (s : State) : Host.Outcome State Fault Refusal := .next (strobeStep s)

/-- A missed strobe, by the sync state (R125, R126, R127). -/
def missedStep (s : State) : State :=
  let t := s.timeBase
  let b := advanceFrame (markBoundary (par s).strobeWindow t)
  match t.sync with
  | .unsynced => s
  | .syncing => enterUnsynced s
  | .locked =>
    if t.missedRun + 1 = 3 then changeTimeBase { b with missedRun := 3, goodRun := 0, sync := .holdover } s
    else changeTimeBase { b with missedRun := t.missedRun + 1 } s
  | .holdover =>
    if t.missedRun < 49 then changeTimeBase { b with missedRun := t.missedRun + 1, goodRun := 0 } s
    else enterUnsynced s

/-- MISSED_STROBE (R123, R126). -/
def execMissedStrobe (s : State) : Host.Outcome State Fault Refusal :=
  .next (if windowDue s then deliver .strobe (strobeKinds false false true) (missedStep s) else s)

/-- FRAME_PERIOD or STROBE_WINDOW changed: UNSYNCED, without a notice when it already is (R131). -/
def gridParameterChanged (s : State) : State := if s.timeBase.sync = .unsynced then s else enterUnsynced s

end Sys2Proof.Machine
end

