-- ==== Sys2Proof/Machine/Store.lean ====
section
/-! DEFINITION. The calibration store: parameter and map requests, loads, saves, the effects of a changed value in other
blocks, and the commands of the flash port (R209 to R224). -/

namespace Sys2Proof.Machine

def setStore (t : Store) (s : State) : State := { s with store := t }

def setWorking (c : Calibration) (s : State) : State := setStore { s.store with working := c } s

/-! ### The effects of a change in other blocks (R213) -/

/-- A value changed, or was written by PARAM_SET where an equal write counts as a change (R100, R131, R200, R213). -/
def effectTaken (old new : Params) (written : Option Param) (p : Param) : Bool :=
  decide (getParam old p ≠ getParam new p) || decide (written = some p)

/-- REPORT_PERIOD changed: the status timer is restarted or stopped (R200). -/
def reportPeriodChanged (s : State) : State :=
  { s with link := { s.link with
      statusTimer := if (par s).reportPeriod = 0 then none else some (after (now s) (1000 * (par s).reportPeriod)) } }

/-- An effect taken when its condition holds. -/
def effectIf (b : Bool) (f : State → State) (s : State) : State := if b then f s else s

/-- A change of the parameters is passed to the blocks that own an effect of it (R213, log 12). -/
def passChanges (old new : Params) (written : Option Param) (s : State) : State :=
  let changed (p : Param) : Bool := decide (getParam old p ≠ getParam new p)
  let taken := effectTaken old new written
  let law := effectIf (changed .steerLimit) clampDelta (effectIf (changed .tiltLimit) clampLambda s)
  let plain := effectIf (changed .camberLimit) camberLimitChanged (effectIf (changed .uMax) uMaxChanged law)
  let timers := effectIf (taken .framePeriod || taken .strobeWindow) gridParameterChanged
    (effectIf (taken .reportPeriod) reportPeriodChanged plain)
  let unhomed := effectIf (taken .cprBar) (unhomeChannel .bar) (effectIf (taken .cprSteer) (unhomeChannel .steer)
    (effectIf (taken .cprTilt) (unhomeChannel .tilt) timers))
  effectIf (changed .steerLimit) (rangeCheck .steer) (effectIf (changed .tiltLimit) (rangeCheck .tilt) unhomed)

/-- New parameters and map take the place of the working calibration, and the changes are passed on (R211, R219). -/
def replaceWorking (c : Calibration) (written : Option Param) (s : State) : State :=
  passChanges s.store.working.params c.params written (setWorking c s)

/-! ### Parameter and map requests (R211 to R215) -/

/-- The parameters after a write: clamped, written, cross-constrained (R211). -/
def writeParam (c : Params) (p : Param) (v : Nat) : Params := crossConstrain (setParam c p (clampParam p v))

/-- PARAM_SET (R211). -/
def takeParamSet (id : Byte) (value : Half) (s : State) : State :=
  if s.regime.regime = .init then refuse .paramSet .wrongRegime s
  else
    match paramOfId id.toNat with
    | none => refuse .paramSet .badValue s
    | some p =>
      if (paramRow p).parkedOnly = true ∧ s.regime.regime ≠ .parked then refuse .paramSet .wrongRegime s
      else
        let c := writeParam (par s) p value.toNat
        accept (.paramSet id (getParam c p) (decide (getParam c p ≠ value.toNat)))
          (replaceWorking { s.store.working with params := c } (some p) s)

/-- PARAM_GET (R214). -/
def takeParamGet (id : Byte) (s : State) : State :=
  match paramOfId id.toNat with
  | none => refuse .paramGet .badValue s
  | some p => accept (.paramGet id (getParam (par s) p)) s

/-- MAP_SET (R215). -/
def takeMapSet (point : Byte) (speed kc kcs lmax : Half) (s : State) : State :=
  let given : MapPoint := ⟨speed.toNat, kc.toNat, kcs.toNat, lmax.toNat⟩
  if s.regime.regime = .init then refuse .mapSet .wrongRegime s
  else if h : point.toNat < 9 then
    let m := s.store.working.map.set point.toNat (clampPoint given)
    if mapOrdered m then
      accept (.mapSet point (clampPoint given) (clampMask given)) (setWorking { s.store.working with map := m } s)
    else refuse .mapSet .order s
  else refuse .mapSet .badValue s

/-- MAP_GET (R214). -/
def takeMapGet (point : Byte) (s : State) : State :=
  if h : point.toNat < 9 then accept (.mapGet point s.store.working.map[point.toNat]) s else refuse .mapGet .badValue s

/-! ### SAVE and LOAD (R221, R222) -/

/-- An operation runs (R221). -/
def storeBusy (s : State) : Bool := s.store.state == .loading || s.store.state == .saving

/-- A ready poll starts with its limit (R217). -/
def startPoll (step : StoreStep) (t : Store) (s : State) : State :=
  setStore { t with step := some step, pollLimit := some (after (now s) 1000000) } s

/-- SAVE (R222). -/
def takeSave (s : State) : State :=
  if s.regime.regime ≠ .parked then refuse .save .wrongRegime s
  else if storeBusy s then refuse .save .busy s
  else accept .save
    (startPoll .savePollFirst
      { s.store with state := .saving, operation := some .save, snapshot := some s.store.working } s)

/-- LOAD (R221). -/
def takeLoad (s : State) : State :=
  if s.regime.regime ≠ .parked then refuse .load .wrongRegime s
  else if storeBusy s then refuse .load .busy s
  else accept .load (startPoll .loadPoll { s.store with state := .loading, operation := some .load } s)

/-! ### The end of an operation (R219, R223) -/

/-- The state after a result: IDLE for a success, FAILED otherwise (R219, R223). -/
def stateAfter : StoreResult → StoreState
  | .valid | .empty | .done => .idle
  | .bad | .verifyFailed | .timeout => .failed

/-- The operation ends: state, snapshot and transaction, and the STORE notice (R219, R223). -/
def endOperation (result : StoreResult) (s : State) : State :=
  postStoreNotice ⟨s.store.operation.getD .startUp, result, stateAfter result, nowMs s⟩
    (setStore { s.store with
      state := stateAfter result, operation := none, snapshot := none, pollLimit := none, step := none } s)

/-- The completion of a load with its result (R219): VALID and EMPTY replace the working calibration. -/
def completeLoad (result : StoreResult) (loaded : Option Calibration) (s : State) : State :=
  match loaded with
  | some c => endOperation result (replaceWorking c none s)
  | none => endOperation result s

/-! ### The flash port (R217, R218, R223) -/

/-- The flash command in progress at a step of an operation (R217, R218, R223). -/
def flashCommand (step : StoreStep) (snapshot : Option Calibration) : FlashCommand :=
  match step with
  | .loadPoll | .savePollFirst | .savePollSecond | .savePollThird => .readStatus
  | .loadHeader => .read 0 8
  | .loadBody count _ => .read 8 (72 + 3 * count)
  | .saveEnableErase | .saveEnableProgram => .writeEnable
  | .saveErase => .sectorErase
  | .saveProgram => .pageProgram (imageBytes (snapshot.getD defaultCalibration))
  | .saveVerify => .read 0 176

/-- The level of FSCS: low while a transaction is in progress (R217, R224). The moment between two transactions
is left out (log 10). -/
def fscsHigh (t : Store) : Bool := t.step.isNone

/-- A step that starts no poll. -/
def goToStep (step : StoreStep) (s : State) : State := setStore { s.store with step := some step, pollLimit := none } s

/-- A read status transaction ends; bit 0 clear ends the ready poll (R217, R218, R223). -/
def readStatusStep (statusByte : Byte) (s : State) : State :=
  if statusByte.getLsbD 0 then s
  else
    match s.store.step with
    | some .loadPoll => goToStep .loadHeader s
    | some .savePollFirst => goToStep .saveEnableErase s
    | some .savePollSecond => goToStep .saveEnableProgram s
    | some .savePollThird => goToStep .saveVerify s
    | _ => s

/-- READ_STATUS_DONE (R217). -/
def execReadStatusDone (statusByte : Byte) (s : State) : Host.Outcome State Fault Refusal :=
  .next (readStatusStep statusByte s)

/-- POLL_LIMIT_EXPIRY: the operation ends with TIMEOUT (R217, R219, R223). -/
def execPollLimitExpiry (s : State) : Host.Outcome State Fault Refusal :=
  .next (if pollLimitDue s then endOperation .timeout s else s)

/-- The header has been read (R218). -/
def headerStep (bytes : Vector Byte 8) (s : State) : State :=
  match judgeHeader bytes with
  | .empty => completeLoad .empty (some defaultCalibration) s
  | .bad => completeLoad .bad none s
  | .pass count crc => goToStep (.loadBody count crc) s

/-- HEADER_READ_DONE (R218). -/
def execHeaderReadDone (bytes : Vector Byte 8) (s : State) : Host.Outcome State Fault Refusal :=
  .next (if s.store.step = some .loadHeader then headerStep bytes s else s)

/-- The body has been read: CRC, map order, VALID (R218). -/
def bodyStep (crc : Half) (body : List Byte) (s : State) : State :=
  if crc16 body ≠ crc then completeLoad .bad none s
  else if mapOrdered (bodyMap body) = false then completeLoad .bad none s
  else completeLoad .valid (some (bodyCalibration body)) s

/-- BODY_READ_DONE (R218); the bytes are those of the transaction in progress (log 18). -/
def execBodyReadDone (body : List Byte) (s : State) : Host.Outcome State Fault Refusal :=
  .next (match s.store.step with
    | some (.loadBody count crc) => if body.length = 72 + 3 * count then bodyStep crc body s else s
    | _ => s)

/-- WRITE_ENABLE_DONE: the erase or the program follows (R223). -/
def execWriteEnableDone (s : State) : Host.Outcome State Fault Refusal :=
  .next (match s.store.step with
    | some .saveEnableErase => goToStep .saveErase s
    | some .saveEnableProgram => goToStep .saveProgram s
    | _ => s)

/-- SECTOR_ERASE_DONE: the second ready poll begins (R223). -/
def execSectorEraseDone (s : State) : Host.Outcome State Fault Refusal :=
  .next (if s.store.step = some .saveErase then startPoll .savePollSecond s.store s else s)

/-- PAGE_PROGRAM_DONE: the third ready poll begins (R223). -/
def execPageProgramDone (s : State) : Host.Outcome State Fault Refusal :=
  .next (if s.store.step = some .saveProgram then startPoll .savePollThird s.store s else s)

/-- The read-back is compared with the image (R223). -/
def verifyStep (bytes : List Byte) (s : State) : State :=
  if s.store.snapshot.map imageBytes = some bytes then endOperation .done s else endOperation .verifyFailed s

/-- VERIFY_READ_DONE (R223). -/
def execVerifyReadDone (bytes : Vector Byte 176) (s : State) : Host.Outcome State Fault Refusal :=
  .next (if s.store.step = some .saveVerify then verifyStep bytes.toList s else s)

end Sys2Proof.Machine
end

