-- ==== Sys2Proof/Machine/Wheels.lean ====
section
/-! DEFINITION. The wheel unit: edges, the INVALID test, the disagreement evaluation, stopping, and the commands WHEEL_EDGE
and STOP_TIMER_EXPIRY (R102 to R118). -/

namespace Sys2Proof.Machine

/-- The two other wheels, in the order FL, FR, RR (R108, log 12). -/
def otherWheels : WheelId → WheelId × WheelId
  | .fl => (.fr, .rr)
  | .fr => (.fl, .rr)
  | .rr => (.fl, .fr)

/-- The slip run (R102). -/
def setRun (r : Option SlipRun) (s : State) : State := { s with wheels := { s.wheels with run := r } }

/-- Wheel slip is set or cleared, and the SLIP_ACTIVE sub-condition WHEEL delivered (R118). -/
def changeSlip (v : Bool) (s : State) : State :=
  if s.wheels.slip = v then s else deliverSlipWheel v { s with wheels := { s.wheels with slip := v } }

/-- The all-stopped step, taken when all three wheels are STOPPED (R117). -/
def allStoppedStep (s : State) : State :=
  if s.wheels.fl.state = .stopped ∧ s.wheels.fr.state = .stopped ∧ s.wheels.rr.state = .stopped then
    setRun none (changeSlip false s)
  else s

/-! ### The INVALID test (R110, R111) -/

/-- A wheel reads above 300 cm/s. -/
def readsFast (s : State) (w : WheelId) : Bool :=
  match reading s w with
  | some v => decide (300 < v)
  | none => false

/-- A wheel is taken out of service (R111). -/
def makeInvalid (w : WheelId) (s : State) : State :=
  faultReport (.wheel w) .silent (elapsed (getWheel s w).lastEdge (now s) / 1000 : Nat)
    (setRun none (setWheel w { getWheel s w with state := .invalid, lastPeriod := none, lastSpeed := 0 } s))

/-- The INVALID test of one wheel at an accepted edge (R110). -/
def isSilent (s : State) (x : WheelId) : Bool :=
  let y := (otherWheels x).1
  let z := (otherWheels x).2
  decide ((getWheel s x).state ≠ .invalid) && decide (2000000 ≤ elapsed (getWheel s x).lastEdge (now s))
    && (readsFast s y || (getWheel s y).state == .invalid) && (readsFast s z || (getWheel s z).state == .invalid)
    && (readsFast s y || readsFast s z)

def invalidTest (x : WheelId) (s : State) : State := if isSilent s x then makeInvalid x s else s

/-! ### The disagreement evaluation (R115, R116) -/

/-- The verdict on three readings and the selected speed (R115). -/
def verdictOf (p : Params) (fl fr rr vLaw : Nat) : Verdict :=
  if max p.slipAbs (p.slipRel * vLaw / 100) < ((rr : Int) - ((fl + fr) / 2 : Nat)).natAbs then .disagree else .agree

def verdict (s : State) : Verdict :=
  verdictOf (par s) ((reading s .fl).getD 0) ((reading s .fr).getD 0) ((reading s .rr).getD 0) (speedNow s)

/-- The run brought up to date with a verdict (R116). -/
def updatedRun (v : Verdict) (t : Time) (run : Option SlipRun) : SlipRun :=
  match run with
  | some r => if r.kind = v then r else ⟨v, t⟩
  | none => ⟨v, t⟩

/-- The verdict applied to the wheel slip flag (R116). -/
def slipAfter (slip : Bool) (r : SlipRun) (t : Time) : Bool :=
  match r.kind with
  | .disagree => slip || decide (20000 ≤ elapsed r.start t)
  | .agree => slip && !decide (200000 ≤ elapsed r.start t)

/-- The disagreement evaluation (R115, R116). -/
def evaluate (s : State) : State :=
  let r := updatedRun (verdict s) (now s) s.wheels.run
  changeSlip (slipAfter s.wheels.slip r (now s)) (setRun (some r) s)

/-! ### Edges (R105 to R108) -/

/-- The follow-on steps of an accepted edge (R108). -/
def followOn (w : WheelId) (s : State) : State :=
  let tested := invalidTest (otherWheels w).2 (invalidTest (otherWheels w).1 s)
  if tested.wheels.fl.state ≠ .invalid ∧ tested.wheels.fr.state ≠ .invalid ∧ tested.wheels.rr.state ≠ .invalid then
    evaluate tested
  else tested

/-- The first edge of a roll is captured (R105). -/
def firstEdge (w : WheelId) (s : State) : State := setWheel w ⟨.rolling, now s, none, 0⟩ s

/-- A later edge is captured with its period and speed (R106). -/
def laterEdge (w : WheelId) (s : State) : State :=
  let period := elapsed (getWheel s w).lastEdge (now s)
  setWheel w ⟨.rolling, now s, some period, wheelSpeed (par s) w period⟩ s

/-- A rising edge, by the wheel state (R105, R106, R107). -/
def wheelEdgeStep (w : WheelId) (s : State) : State :=
  match (getWheel s w).state with
  | .stopped => followOn w (firstEdge w s)
  | .rolling =>
    if elapsed (getWheel s w).lastEdge (now s) < 100 then deliver .wheelGlitch (wheelKind w) s
    else followOn w (laterEdge w s)
  | .invalid => s

/-- WHEEL_EDGE (R106). -/
def execWheelEdge (w : WheelId) (s : State) : Host.Outcome State Fault Refusal := .next (wheelEdgeStep w s)

/-- The stop timer's expiry (R109). -/
def stopWheel (w : WheelId) (s : State) : State :=
  allStoppedStep (setWheel w { getWheel s w with state := .stopped, lastPeriod := none, lastSpeed := 0 } s)

/-- STOP_TIMER_EXPIRY (R109). -/
def execStopTimerExpiry (w : WheelId) (s : State) : Host.Outcome State Fault Refusal :=
  .next (if stopDue s w then stopWheel w s else s)

/-- CLEAR of a wheel: STOPPED from INVALID, its last edge at the CLEAR (R112). -/
def clearWheel (w : WheelId) (s : State) : State :=
  if (getWheel s w).state = .invalid then setWheel w ⟨.stopped, now s, none, 0⟩ s else s

/-- CLEAR of the wheel unit (R112, R117). -/
def clearWheels (s : State) : State := allStoppedStep (clearWheel .rr (clearWheel .fr (clearWheel .fl s)))

end Sys2Proof.Machine
end

