-- ==== Sys2Proof/Machine/Requests.lean ====
section
/-! DEFINITION. The requests of the regime controller, the time base and the link as their owners take them: ALIGN, RIDE,
PARK, HOME, CLEAR, HISTORY_READ, STATUS and RESET (R37, R38, R47, R50, R52, R61, R64, R130, R201, R206). -/

namespace Sys2Proof.Machine

/-- ALIGN (R130). -/
def takeAlign (n : Half) (s : State) : State :=
  if s.regime.regime = .init then refuse .align .wrongRegime s
  else if s.timeBase.sync = .unsynced then refuse .align .notSynced s
  else accept (.align n) { s with timeBase := { s.timeBase with frameCount := n, aligned := true } }

/-! ### RIDE (R37, R38) -/

/-- The checks of RIDE in order; the first that fails gives the refusal (R37). -/
def rideRefusal (s : State) : Option RefusalCode :=
  if s.regime.regime = .homing ∨ s.regime.regime = .locking then some .busy
  else if s.regime.regime ≠ .parked then some .wrongRegime
  else if storeBusy s then some .busy
  else if ¬ allHomed s then some .notHomed
  else if faultLatched s ∨ selectedSpeed s = none ∨ s.drives.brake.state ≠ .engaged then some .faultActive
  else if (par s).vPark ≤ speedNow s then some .tooFast
  else none

/-- The steps of an accepted RIDE before its reply (R38). -/
def rideStep (s : State) : State :=
  changeRegime .unlocking none (commandRelease (commandDrive .steer .run (commandDrive .tilt .run (targetSet s))))

/-- RIDE (R37). -/
def takeRide (s : State) : State :=
  match rideRefusal s with
  | some code => refuse .ride code s
  | none => accept .ride (rideStep s)

/-! ### PARK (R47, R50) -/

/-- The brake engages and the regime becomes LOCKING, the dwell start absent (R39, R50). -/
def startLocking (s : State) : State := changeRegime .locking none (commandEngage (setDwell none s))

/-- PARK, by the regime; the speed test is made on the value of R34, 0 when unknown (R34, R50; log 22). -/
def takePark (s : State) : State :=
  match s.regime.regime with
  | .parked => accept (.park false) s
  | .locking => accept (.park false) s
  | .unlocking => accept (.park false) (startLocking s)
  | .uprightHold =>
    if speedNow s < (par s).vPark then accept (.park false) (startLocking s) else refuse .park .tooFast s
  | .release => accept (.park true) (transientAbort .parkRequest (speedNow s) s)
  | .freeLean => refuse .park .tooFast s
  | .capture => refuse .park .busy s
  | .homing => refuse .park .busy s
  | .init => refuse .park .wrongRegime s
  | .safe => refuse .park .wrongRegime s

/-! ### HOME (R52) -/

/-- The checks of HOME in order (R52). -/
def homeRefusal (s : State) : Option RefusalCode :=
  if s.regime.regime ≠ .parked then some .wrongRegime
  else if storeBusy s then some .busy
  else if s.drives.brake.state ≠ .engaged then some .faultActive
  else none

/-- The steps of an accepted HOME before its reply (R52). -/
def homeStep (s : State) : State :=
  changeRegime .homing none
    (setPhase (some .releasing) (commandRelease (seekChannel .steer (seekChannel .tilt s))))

/-- HOME (R52). -/
def takeHome (s : State) : State :=
  match homeRefusal s with
  | some code => refuse .home code s
  | none => accept .home (homeStep s)

/-! ### CLEAR (R61) -/

/-- The checks of CLEAR in order (R61). -/
def clearRefusal (s : State) : Option RefusalCode :=
  match s.regime.regime with
  | .parked | .safe =>
    if selectedSpeed s ≠ none ∧ speedNow s < (par s).vPark then none else some .tooFast
  | .homing => some .busy
  | .init | .unlocking | .uprightHold | .release | .freeLean | .capture | .locking => some .wrongRegime

/-- Each owner drops its latched faults, in the order of R61. -/
def dropFaults (s : State) : State :=
  clearWheels (clearBrake (clearDrive .steer (clearDrive .tilt (clearChannels s))))

/-- The steps of an accepted CLEAR before its reply (R61). -/
def clearStep (s : State) : State :=
  let dropped := dropFaults s
  let idle := setSafeHolding none (bothOff { dropped with regime := { dropped.regime with history := [] } })
  if s.regime.regime = .parked then idle else changeRegime .parked none idle

/-- CLEAR (R61). -/
def takeClear (s : State) : State :=
  match clearRefusal s with
  | some code => refuse .clear code s
  | none => accept .clear (clearStep s)

/-! ### Requests that read, and RESET -/

/-- HISTORY_READ (R64, R205). -/
def takeHistoryRead (s : State) : State := accept (.historyRead s.regime.history) s

/-- STATUS (R201, R205). -/
def takeStatus (s : State) : State := accept (.status (statusRecord s)) s

/-- RESET is accepted in PARKED, and in SAFE below V_PARK, an unknown speed counting as 0 (R206). -/
def resetAllowed (s : State) : Bool :=
  s.regime.regime == .parked || (s.regime.regime == .safe && decide (speedNow s < (par s).vPark))

def closeHandover (s : State) : State := { s with link := { s.link with handover := .closed } }

/-- RESET (R206). -/
def takeReset (s : State) : State :=
  if resetAllowed s then closeHandover (accept .reset s) else refuse .reset .wrongRegime s

end Sys2Proof.Machine
end

