-- ==== Sys2Proof/Machine/Reset.lean ====
section
/-! DEFINITION. The two resets: the power-on reset, and the command reset that the end of a RESET reply brings (R206, R207,
R220, R224, and the reset column of every block's state table). -/

namespace Sys2Proof.Machine

/-- The drive unit right after a reset: the brake is ENGAGING, and ENGAGED at once when BRKS is low (R161, R165). -/
def resetDrivesAt (brks : Bool) : DriveUnit :=
  if brks then resetDrives else { resetDrives with brake := ⟨.engaged, false, none⟩ }

/-- The state right after a power-on reset that finds the pins at the given levels (R220). -/
def powerOnState (levels : PinLevels) (pending : List Instr) : State where
  pending := pending
  pins := levels.pins
  link := resetLink defaultParams.reportPeriod
  timeBase := resetTimeBase
  intake := resetIntake
  channels := ⟨resetChannel levels.tilt, resetChannel levels.steer, resetChannel levels.bar⟩
  wheels := resetWheels
  law := resetLaw
  regime := resetRegime
  drives := resetDrivesAt levels.pins.brks
  counters := resetCounters
  store := powerOnStore

/-- The state right after a command reset: the working calibration and the pin levels stay (R207, R209, R224). -/
def commandResetState (s : State) : State where
  pending := s.pending
  pins := s.pins
  link := resetLink s.store.working.params.reportPeriod
  timeBase := resetTimeBase
  intake := resetIntake
  channels := ⟨resetChannel s.channels.tilt.lines, resetChannel s.channels.steer.lines, resetChannel s.channels.bar.lines⟩
  wheels := resetWheels
  law := resetLaw
  regime := resetRegime
  drives := resetDrivesAt s.pins.brks
  counters := resetCounters
  store := commandResetStore s.store.working

/-- The frame of the RESET reply (R196, R202). -/
def resetReplyFrame : Frame := ⟨0x80, [0x7F]⟩

/-- The RESET reply is being sent while handover is CLOSED: its end is the command reset (R207). -/
def resetReplySending (l : Link) : Bool :=
  l.handover == .closed && decide (l.transmitter = some ⟨resetReplyFrame, []⟩)

/-- POWER_ON_RESET (R220). -/
def execPowerOnReset (levels : PinLevels) (s : State) : Host.Outcome State Fault Refusal :=
  .next (powerOnState levels s.pending)

/-- COMMAND_RESET (R207; log 8). -/
def execCommandReset (s : State) : Host.Outcome State Fault Refusal :=
  .next (if resetReplySending s.link then commandResetState s else s)

end Sys2Proof.Machine
end

