-- ==== Sys2Proof/Machine/Link.lean ====
section
/-! DEFINITION. The message link: handing requests over to their owners, receiving bytes, the gap timer, the end of a frame
being sent, the status timer, and the commands of these events and of the requests (R191 to R198, R200, R202). -/

namespace Sys2Proof.Machine

/-! ### Handing over (R194, R195) -/

/-- A request that passed the link's checks is taken by its owner, its operands read from the payload (R195, R208). -/
def takeRequest (k : RequestKind) (payload : List Byte) (s : State) : State :=
  match k with
  | .motion => takeMotion payload s
  | .align => takeAlign (halfAt payload 0) s
  | .ride => takeRide s
  | .park => takePark s
  | .home => takeHome s
  | .clear => takeClear s
  | .paramSet => takeParamSet (byteAt payload 0) (halfAt payload 1) s
  | .paramGet => takeParamGet (byteAt payload 0) s
  | .mapSet =>
    takeMapSet (byteAt payload 0) (halfAt payload 1) (halfAt payload 3) (halfAt payload 5) (halfAt payload 7) s
  | .mapGet => takeMapGet (byteAt payload 0) s
  | .counterSet =>
    takeCounterSet (byteAt payload 0) (byteAt payload 1) (byteAt payload 2) (byteAt payload 3) (wordAt payload 4)
      (byteAt payload 8) s
  | .counterRead => takeCounterRead s
  | .counterClear => takeCounterClear (byteAt payload 0) s
  | .historyRead => takeHistoryRead s
  | .status => takeStatus s
  | .save => takeSave s
  | .load => takeLoad s
  | .reset => takeReset s

/-- A frame handed over: the checks of its KIND and LEN, then its owner (R195). -/
def handOver (f : Frame) (s : State) : State :=
  match kindOfByte f.kind with
  | none => postReply (.refused f.kind .unknownKind) s
  | some k => if lengthFits k f.payload.length then takeRequest k f.payload s else refuse k .badLength s

/-- The head frame may be taken: handover is OPEN, and the frame is a MOTION frame or a reply has room (R194). -/
def mayTake (f : Frame) (l : Link) : Bool :=
  l.handover == .opened && (f.kind == kindByte .motion || decide (l.replyQueue.length < 4))

def setReceiveQueue (frames : List Frame) (s : State) : State := { s with link := { s.link with receiveQueue := frames } }

/-- Frames are taken from the head of the receive queue, one after another, while they may be (R194). The first argument
bounds the number of frames. -/
def handOverWaiting : Nat → State → State
  | 0, s => s
  | n + 1, s =>
    match s.link.receiveQueue with
    | [] => s
    | f :: rest => if mayTake f s.link then handOverWaiting n (handOver f (setReceiveQueue rest s)) else s

/-- Every frame that may be taken is taken (R194). -/
def proceedHandover (s : State) : State := handOverWaiting s.link.receiveQueue.length s

/-- A frame comes to the receive queue as a request command: it enters when there is room, and handover proceeds (R193,
R194, log 6). -/
def presentFrame (f : Frame) (s : State) : State :=
  if s.link.receiveQueue.length < 4 then proceedHandover (setReceiveQueue (s.link.receiveQueue ++ [f]) s) else s

/-! ### The request commands (R202) -/

/-- UNKNOWN_KIND (R195; log 7). -/
def execUnknownKind (kind : Byte) (payload : List Byte) (s : State) : Host.Outcome State Fault Refusal :=
  .next (presentFrame ⟨kind, payload⟩ s)

/-- MOTION (R132, R194). -/
def execMotion (payload : List Byte) (s : State) : Host.Outcome State Fault Refusal :=
  .next (presentFrame ⟨kindByte .motion, payload⟩ s)

/-- ALIGN (R130). -/
def execAlign (n : Half) (s : State) : Host.Outcome State Fault Refusal :=
  .next (presentFrame ⟨kindByte .align, alignPayload n⟩ s)

/-- RIDE (R37). -/
def execRide (s : State) : Host.Outcome State Fault Refusal := .next (presentFrame ⟨kindByte .ride, []⟩ s)

/-- PARK (R50). -/
def execPark (s : State) : Host.Outcome State Fault Refusal := .next (presentFrame ⟨kindByte .park, []⟩ s)

/-- HOME (R52). -/
def execHome (s : State) : Host.Outcome State Fault Refusal := .next (presentFrame ⟨kindByte .home, []⟩ s)

/-- CLEAR (R61). -/
def execClear (s : State) : Host.Outcome State Fault Refusal := .next (presentFrame ⟨kindByte .clear, []⟩ s)

/-- PARAM_SET (R211). -/
def execParamSet (id : Byte) (value : Half) (s : State) : Host.Outcome State Fault Refusal :=
  .next (presentFrame ⟨kindByte .paramSet, paramSetPayload id value⟩ s)

/-- PARAM_GET (R214). -/
def execParamGet (id : Byte) (s : State) : Host.Outcome State Fault Refusal :=
  .next (presentFrame ⟨kindByte .paramGet, [id]⟩ s)

/-- MAP_SET (R215). -/
def execMapSet (point : Byte) (speed kc kcs lmax : Half) (s : State) : Host.Outcome State Fault Refusal :=
  .next (presentFrame ⟨kindByte .mapSet, mapSetPayload point speed kc kcs lmax⟩ s)

/-- MAP_GET (R214). -/
def execMapGet (point : Byte) (s : State) : Host.Outcome State Fault Refusal :=
  .next (presentFrame ⟨kindByte .mapGet, [point]⟩ s)

/-- COUNTER_SET (R183). -/
def execCounterSet (counter event mask mode : Byte) (threshold : Word32) (action : Byte) (s : State) :
    Host.Outcome State Fault Refusal :=
  .next (presentFrame ⟨kindByte .counterSet, counterSetPayload counter event mask mode threshold action⟩ s)

/-- COUNTER_READ (R185). -/
def execCounterRead (s : State) : Host.Outcome State Fault Refusal := .next (presentFrame ⟨kindByte .counterRead, []⟩ s)

/-- COUNTER_CLEAR (R186). -/
def execCounterClear (mask : Byte) (s : State) : Host.Outcome State Fault Refusal :=
  .next (presentFrame ⟨kindByte .counterClear, [mask]⟩ s)

/-- HISTORY_READ (R64). -/
def execHistoryRead (s : State) : Host.Outcome State Fault Refusal := .next (presentFrame ⟨kindByte .historyRead, []⟩ s)

/-- STATUS (R201). -/
def execStatus (s : State) : Host.Outcome State Fault Refusal := .next (presentFrame ⟨kindByte .status, []⟩ s)

/-- SAVE (R222). -/
def execSave (s : State) : Host.Outcome State Fault Refusal := .next (presentFrame ⟨kindByte .save, []⟩ s)

/-- LOAD (R221). -/
def execLoad (s : State) : Host.Outcome State Fault Refusal := .next (presentFrame ⟨kindByte .load, []⟩ s)

/-- RESET (R206). -/
def execReset (s : State) : Host.Outcome State Fault Refusal := .next (presentFrame ⟨kindByte .reset, []⟩ s)

/-! ### Receiving (R191 to R193) -/

/-- The sub-kinds of LINK_FRAME, in mask order (R171). -/
def frameKinds (good crc overrun gap length : Bool) : Byte := maskOf [good, crc, overrun, gap, length]

/-- The receiver goes on with the frame in assembly, its gap timer restarted (R191, R192). -/
def assemble (r : Receiver) (s : State) : State :=
  { s with link := { s.link with receiver := r, gapTimer := some (after (now s) 2000) } }

/-- The receiver returns to HUNT, its gap timer stopped (R191). -/
def endAssembly (s : State) : State := { s with link := { s.link with receiver := .hunt, gapTimer := none } }

/-- A good frame: it is queued, LINK_FRAME{GOOD} is delivered, and handover proceeds; a full queue drops it (R193). -/
def goodFrame (f : Frame) (s : State) : State :=
  if s.link.receiveQueue.length < 4 then
    proceedHandover (deliver .linkFrame (frameKinds true false false false false)
      (setReceiveQueue (s.link.receiveQueue ++ [f]) s))
  else deliver .linkFrame (frameKinds false false true false false) s

/-- The CRC verdict (R193). -/
def crcVerdict (kind : Byte) (payload : List Byte) (received : Half) (s : State) : State :=
  if frameCrc kind payload = received then goodFrame ⟨kind, payload⟩ s
  else deliver .linkFrame (frameKinds false true false false false) s

/-- A byte taken by the receiver, by its state (R191). -/
def linkByteStep (b : Byte) (s : State) : State :=
  match s.link.receiver with
  | .hunt => if b = 0xC3 then assemble .len s else s
  | .len =>
    if b.toNat ≤ 48 then assemble (.kind b.toNat) s
    else deliver .linkFrame (frameKinds false false false false true) (endAssembly s)
  | .kind length => assemble (if length = 0 then .crcHi b [] else .payload length b []) s
  | .payload length kind taken =>
    assemble (if length ≤ taken.length + 1 then .crcHi kind (taken ++ [b]) else .payload length kind (taken ++ [b])) s
  | .crcHi kind payload => assemble (.crcLo kind payload b) s
  | .crcLo kind payload high => crcVerdict kind payload (high ++ b) (endAssembly s)

/-- LINK_BYTE (R191). -/
def execLinkByte (b : Byte) (s : State) : Host.Outcome State Fault Refusal := .next (linkByteStep b s)

/-- GAP_TIMER_EXPIRY (R192). -/
def execGapTimerExpiry (s : State) : Host.Outcome State Fault Refusal :=
  .next (if gapDue s then deliver .linkFrame (frameKinds false false false true false) (endAssembly s) else s)

/-! ### Sending (R197, R198, R207) -/

/-- The frame in progress ends: the command reset after a RESET reply, the second frame of a reply, or an idle transmitter
that selects, which can free a place for a waiting frame (R194, R197, R198, R207; log 8). -/
def transmitEndStep (s : State) : State :=
  if resetReplySending s.link then commandResetState s
  else
    match s.link.transmitter with
    | none => s
    | some ⟨_, f :: rest⟩ => { s with link := { s.link with transmitter := some ⟨f, rest⟩ } }
    | some ⟨_, []⟩ => proceedHandover (postLink (fun l => { l with transmitter := none }) s)

/-- TRANSMIT_END (R197). -/
def execTransmitEnd (s : State) : Host.Outcome State Fault Refusal := .next (transmitEndStep s)

/-! ### The status timer (R200) -/

/-- The status timer expires: a record in the slot, and the next expiry (R200). -/
def statusTimerStep (s : State) : State :=
  postLink
    (fun l =>
      { l with
        statusSlot := some (statusRecord s)
        statusTimer := some (after (now s) (1000 * (par s).reportPeriod)) }) s

/-- STATUS_TIMER_EXPIRY (R200). -/
def execStatusTimerExpiry (s : State) : Host.Outcome State Fault Refusal :=
  .next (if statusDue s then statusTimerStep s else s)

end Sys2Proof.Machine
end

