-- ==== Sys2Proof/Machine/Dispatch.lean ====
section
/-! DEFINITION. The dispatch of commands to their meanings: one arm per constructor of Instr. -/

namespace Sys2Proof.Machine

/-- The meaning of a command. -/
def exec (i : Instr) (s : State) : Host.Outcome State Fault Refusal :=
  match i with
  | .powerOnReset levels => Sys2Proof.Machine.execPowerOnReset levels s
  | .commandReset => Sys2Proof.Machine.execCommandReset s
  | .linkByte byte => Sys2Proof.Machine.execLinkByte byte s
  | .gapTimerExpiry => Sys2Proof.Machine.execGapTimerExpiry s
  | .unknownKind kind payload => Sys2Proof.Machine.execUnknownKind kind payload s
  | .motion payload => Sys2Proof.Machine.execMotion payload s
  | .align n => Sys2Proof.Machine.execAlign n s
  | .ride => Sys2Proof.Machine.execRide s
  | .park => Sys2Proof.Machine.execPark s
  | .home => Sys2Proof.Machine.execHome s
  | .clear => Sys2Proof.Machine.execClear s
  | .paramSet id value => Sys2Proof.Machine.execParamSet id value s
  | .paramGet id => Sys2Proof.Machine.execParamGet id s
  | .mapSet point speed kc kcs lmax => Sys2Proof.Machine.execMapSet point speed kc kcs lmax s
  | .mapGet point => Sys2Proof.Machine.execMapGet point s
  | .counterSet counter event mask mode threshold action => Sys2Proof.Machine.execCounterSet counter event mask mode threshold action s
  | .counterRead => Sys2Proof.Machine.execCounterRead s
  | .counterClear mask => Sys2Proof.Machine.execCounterClear mask s
  | .historyRead => Sys2Proof.Machine.execHistoryRead s
  | .status => Sys2Proof.Machine.execStatus s
  | .save => Sys2Proof.Machine.execSave s
  | .load => Sys2Proof.Machine.execLoad s
  | .reset => Sys2Proof.Machine.execReset s
  | .transmitEnd => Sys2Proof.Machine.execTransmitEnd s
  | .statusTimerExpiry => Sys2Proof.Machine.execStatusTimerExpiry s
  | .strobe => Sys2Proof.Machine.execStrobe s
  | .missedStrobe => Sys2Proof.Machine.execMissedStrobe s
  | .freshnessDeadlineExpiry => Sys2Proof.Machine.execFreshnessDeadlineExpiry s
  | .lineEvent channel lines z => Sys2Proof.Machine.execLineEvent channel lines z s
  | .suspectTimerExpiry channel => Sys2Proof.Machine.execSuspectTimerExpiry channel s
  | .wheelEdge wheel => Sys2Proof.Machine.execWheelEdge wheel s
  | .stopTimerExpiry wheel => Sys2Proof.Machine.execStopTimerExpiry wheel s
  | .lawExpiry => Sys2Proof.Machine.execLawExpiry s
  | .releaseBlendExpiry => Sys2Proof.Machine.execReleaseBlendExpiry s
  | .captureBlendExpiry => Sys2Proof.Machine.execCaptureBlendExpiry s
  | .leaveInit => Sys2Proof.Machine.execLeaveInit s
  | .brakeReleased tside sside => Sys2Proof.Machine.execBrakeReleased tside sside s
  | .brakeEngaged => Sys2Proof.Machine.execBrakeEngaged s
  | .pwmBoundary toc soc => Sys2Proof.Machine.execPwmBoundary toc soc s
  | .loopExpiry tside sside => Sys2Proof.Machine.execLoopExpiry tside sside s
  | .overcurrentCut drive => Sys2Proof.Machine.execOvercurrentCut drive s
  | .creepTimerExpiry drive => Sys2Proof.Machine.execCreepTimerExpiry drive s
  | .brksRise => Sys2Proof.Machine.execBrksRise s
  | .brksFall => Sys2Proof.Machine.execBrksFall s
  | .brakeTimerExpiry => Sys2Proof.Machine.execBrakeTimerExpiry s
  | .millisecondTimerExpiry counter => Sys2Proof.Machine.execMillisecondTimerExpiry counter s
  | .readStatusDone statusByte => Sys2Proof.Machine.execReadStatusDone statusByte s
  | .pollLimitExpiry => Sys2Proof.Machine.execPollLimitExpiry s
  | .headerReadDone bytes => Sys2Proof.Machine.execHeaderReadDone bytes s
  | .bodyReadDone bytes => Sys2Proof.Machine.execBodyReadDone bytes s
  | .writeEnableDone => Sys2Proof.Machine.execWriteEnableDone s
  | .sectorEraseDone => Sys2Proof.Machine.execSectorEraseDone s
  | .pageProgramDone => Sys2Proof.Machine.execPageProgramDone s
  | .verifyReadDone bytes => Sys2Proof.Machine.execVerifyReadDone bytes s

end Sys2Proof.Machine
end

