-- ==== Sys2Proof/Safety.lean ====
section
/-! DEFINITION. What a safe state is, block by block: the bounds, the presence rules and the cross-block promises the manual
makes about every state a run can reach. -/

namespace Sys2Proof.Machine

/-! ### The message link (R188, R191, R194, R196, R197) -/

/-- Nothing waits for the transmitter (R197). -/
structure NothingPending (l : Link) : Prop where
  replies : l.replyQueue = []
  regime : l.regimeSlot = none
  fault : l.faultSlot = none
  store : l.storeSlot = none
  threshold : l.thresholdSlot = none
  timebase : l.timebaseSlot = none
  status : l.statusSlot = none

/-- The partial frame held fits its LEN, at most 48 (R189, R191). -/
def receiverFits : Receiver → Prop
  | .hunt => True
  | .len => True
  | .kind n => n ≤ 48
  | .payload n _ taken => n ≤ 48 ∧ taken.length < n
  | .crcHi _ payload => payload.length ≤ 48
  | .crcLo _ payload _ => payload.length ≤ 48

/-- The link's queues keep their bounds, the gap timer runs outside HUNT, an idle transmitter has nothing to send, and a
frame at the head of the receive queue is one that may not be taken (R188, R191, R194, R196, R197). -/
structure LinkSafe (l : Link) : Prop where
  receiveBound : l.receiveQueue.length ≤ 4
  replyBound : l.replyQueue.length ≤ 4
  gapRuns : l.gapTimer = none ↔ l.receiver = .hunt
  partialFits : receiverFits l.receiver
  idleEmpty : l.transmitter = none → NothingPending l
  headWaits : ∀ f rest, l.receiveQueue = f :: rest → mayTake f l = false

/-- A request frame presented now is handed over at its entry (R194). -/
structure TakesAtOnce (s : State) : Prop where
  opened : s.link.handover = .opened
  empty : s.link.receiveQueue = []
  room : s.link.replyQueue.length < 4

/-- The frame in which a request command comes to the receive queue, KIND and payload by R202 and R208. -/
def requestFrame : Instr → Option Frame
  | .unknownKind kind payload => some ⟨kind, payload⟩
  | .motion payload => some ⟨0x01, payload⟩
  | .align n => some ⟨0x02, alignPayload n⟩
  | .ride => some ⟨0x10, []⟩
  | .park => some ⟨0x11, []⟩
  | .home => some ⟨0x12, []⟩
  | .clear => some ⟨0x13, []⟩
  | .paramSet id value => some ⟨0x20, paramSetPayload id value⟩
  | .paramGet id => some ⟨0x21, [id]⟩
  | .mapSet point speed kc kcs lmax => some ⟨0x22, mapSetPayload point speed kc kcs lmax⟩
  | .mapGet point => some ⟨0x23, [point]⟩
  | .counterSet counter event mask mode threshold action =>
    some ⟨0x30, counterSetPayload counter event mask mode threshold action⟩
  | .counterRead => some ⟨0x31, []⟩
  | .counterClear mask => some ⟨0x32, [mask]⟩
  | .historyRead => some ⟨0x33, []⟩
  | .status => some ⟨0x34, []⟩
  | .save => some ⟨0x40, []⟩
  | .load => some ⟨0x41, []⟩
  | .reset => some ⟨0x7F, []⟩
  | .powerOnReset _ | .commandReset | .linkByte _ | .gapTimerExpiry | .transmitEnd | .statusTimerExpiry | .strobe
  | .missedStrobe | .freshnessDeadlineExpiry | .lineEvent _ _ _ | .suspectTimerExpiry _ | .wheelEdge _
  | .stopTimerExpiry _ | .lawExpiry | .releaseBlendExpiry | .captureBlendExpiry | .leaveInit | .brakeReleased _ _
  | .brakeEngaged | .pwmBoundary _ _ | .loopExpiry _ _ | .overcurrentCut _ | .creepTimerExpiry _ | .brksRise | .brksFall
  | .brakeTimerExpiry | .millisecondTimerExpiry _ | .readStatusDone _ | .pollLimitExpiry | .headerReadDone _
  | .bodyReadDone _ | .writeEnableDone | .sectorEraseDone | .pageProgramDone | .verifyReadDone _ => none

/-! ### The calibration store (R210 to R212, R215, R216) -/

/-- A value a parameter may hold (R210). -/
def inRange (p : Param) (v : Nat) : Prop :=
  ((paramRow p).lo ≤ v ∧ v ≤ (paramRow p).hi) ∨ (p = .reportPeriod ∧ v = 0)

/-- A calibration the store may hold: ranges, cross-constraints, map ranges and map order (R210, R212, R215). -/
structure CalibrationSafe (c : Calibration) : Prop where
  ranges : ∀ p, inRange p (getParam c.params p)
  freeAboveLock : c.params.vLock + 50 ≤ c.params.vFree
  parkBelowLock : c.params.vPark + 20 ≤ c.params.vLock
  mapRanges : ∀ p ∈ c.map.toList, p.speed ≤ 2000 ∧ p.kc ≤ 5000 ∧ p.kcs ≤ 2000 ∧ p.lmax ≤ 4254
  ordered : mapOrdered c.map = true

/-- The step of a load (R218). -/
def isLoadStep : StoreStep → Bool
  | .loadPoll | .loadHeader | .loadBody _ _ => true
  | .savePollFirst | .saveEnableErase | .saveErase | .savePollSecond | .saveEnableProgram | .saveProgram
  | .savePollThird | .saveVerify => false

/-- A step that is a ready poll (R217). -/
def isPollStep : StoreStep → Bool
  | .loadPoll | .savePollFirst | .savePollSecond | .savePollThird => true
  | .loadHeader | .loadBody _ _ | .saveEnableErase | .saveErase | .saveEnableProgram | .saveProgram | .saveVerify => false

/-- The store state agrees with its operation, its snapshot, its step and its poll limit (R216). -/
structure StoreSafe (t : Store) : Prop where
  loading : t.state = .loading ↔ (t.operation = some .startUp ∨ t.operation = some .load)
  saving : t.state = .saving ↔ t.operation = some .save
  snapshotHeld : t.snapshot.isSome = true ↔ t.state = .saving
  noStep : t.operation = none → t.step = none
  loadSteps : t.state = .loading → ∃ k, t.step = some k ∧ isLoadStep k = true
  saveSteps : t.state = .saving → ∃ k, t.step = some k ∧ isLoadStep k = false
  pollLimitRuns : t.pollLimit.isSome = true ↔ ∃ k, t.step = some k ∧ isPollStep k = true
  workingSafe : CalibrationSafe t.working
  snapshotSafe : ∀ c, t.snapshot = some c → CalibrationSafe c

/-! ### The published targets and the duties (R23, R74, R140, R150) -/

/-- The duties of a drive are within a bound (R150). -/
def dutiesWithin (uMax : Nat) (r : Drive) : Prop := r.shadow.natAbs ≤ uMax ∧ r.active.natAbs ≤ uMax

/-- Everything the mechanism is told lies within the limits in force: λ_t, δ_t, the camber estimate and the duties. -/
structure LimitsSafe (s : State) : Prop where
  tilt : s.law.lambdaT.natAbs ≤ (par s).tiltLimit
  steer : s.law.deltaT.natAbs ≤ (par s).steerLimit
  camber : s.intake.cEst.natAbs ≤ (par s).camberLimit
  tiltDuty : dutiesWithin (par s).uMax s.drives.tilt
  steerDuty : dutiesWithin (par s).uMax s.drives.steer

/-! ### The regime controller and the law engine's ring (R25, R31, R62, R63) -/

/-- An abort record as R62 allows it. -/
structure RecordSafe (r : AbortRecord) : Prop where
  capture : r.toRegime = .capture → persistence r.cause = .transient ∧ r.fromRegime = .release
  safe : r.toRegime = .safe → persistence r.cause = .persistent
  target : r.toRegime = .capture ∨ r.toRegime = .safe
  alphaBound : r.alpha ≤ 1024
  speedBound : r.speed ≤ 2000

/-- The regimes a regime may be entered from within one event: the table of 02 §2.1, a reset into INIT, and the capture from
α 0 that is complete at its start (R46). -/
def mayEnter : Regime → Regime → Bool
  | old, new =>
    match new with
    | .init => true
    | .parked => old == .init || old == .locking || old == .homing || old == .safe
    | .homing => old == .parked
    | .unlocking => old == .parked
    | .uprightHold => old == .unlocking || old == .capture || old == .release
    | .release => old == .uprightHold
    | .freeLean => old == .release
    | .capture => old == .release || old == .freeLean
    | .locking => old == .unlocking || old == .uprightHold
    | .safe => old == .unlocking || old == .uprightHold || old == .release || old == .freeLean || old == .capture
        || old == .locking || old == .homing

/-- The presence rules of the regime controller's state, its history and its blend (R31, R42, R62, R63), and the bar ring
(R25). -/
structure RegimeSafe (s : State) : Prop where
  releaseBlend : s.regime.regime = .release ↔ ∃ b, s.regime.blend = some b ∧ b.kind = .release
  captureBlend : s.regime.regime = .capture ↔ ∃ b, s.regime.blend = some b ∧ b.kind = .capture
  alphaStart : ∀ b, s.regime.blend = some b → b.alphaStart ≤ 1024
  dwell : s.regime.dwellStart.isSome = true → s.regime.regime = .uprightHold
  phase : s.regime.phase.isSome = true ↔ s.regime.regime = .homing
  safeDrive : s.regime.safeHolding.isSome = true ↔ s.regime.regime = .safe
  historyBound : s.regime.history.length ≤ 8
  records : ∀ r ∈ s.regime.history, RecordSafe r
  ringBound : s.law.ring.length ≤ 6

/-! ### Drives and brake (R30, R145, R148, R160, R161) -/

/-- A regime in which the scooter rides (00 §5). -/
def isRiding : Regime → Bool
  | .unlocking | .uprightHold | .release | .freeLean | .capture | .locking => true
  | .init | .parked | .homing | .safe => false

/-- A drive record keeps the presence rules of its mode: a bridge that is off has no duty (R145, R148, R160). -/
structure DriveSafe (r : Drive) : Prop where
  offIdle : r.mode = .off ∨ r.mode = .fault → r.shadow = 0 ∧ r.active = 0 ∧ r.dir = false
  holdHeld : r.holdTarget.isSome = true ↔ r.mode = .hold
  loopOnly : r.ePrev.isSome = true ∨ r.satStart.isSome = true ∨ r.saturated = true → r.mode = .hold ∨ r.mode = .run
  creepOnly : r.creepTimer.isSome = true → r.mode = .creep
  cutBound : r.cutRun < 400

/-- Both drives and the brake are safe, and the regime's promises about them hold: the brake output is low in INIT, PARKED
and SAFE, and the tilt drive is in RUN only while riding (R30, R161). -/
structure DrivesSafe (s : State) : Prop where
  tilt : DriveSafe s.drives.tilt
  steer : DriveSafe s.drives.steer
  output : s.drives.brake.output = true ↔ (s.drives.brake.state = .releasing ∨ s.drives.brake.state = .released)
  timer : s.drives.brake.timer.isSome = true ↔ (s.drives.brake.state = .releasing ∨ s.drives.brake.state = .engaging)
  deEnergised : s.regime.regime = .init ∨ s.regime.regime = .parked ∨ s.regime.regime = .safe →
    s.drives.brake.output = false
  runRiding : s.drives.tilt.mode = .run → isRiding s.regime.regime = true

/-- A drive record after the actions of leaving its mode (R146). -/
def leftRecord (r : Drive) : Drive :=
  match r.mode with
  | .creep => { r with creepTimer := none }
  | .hold => { r with holdTarget := none, ePrev := none, satStart := none, saturated := false }
  | .run => { r with ePrev := none, satStart := none, saturated := false }
  | .off | .fault => r

/-- Leaving the mode ends a saturation, and the change is delivered (R146, R154). -/
def endsSaturation (r : Drive) : Bool := r.saturated && (r.mode == .hold || r.mode == .run)

/-- The state but for the drive, when a drive leaves its mode: the end of a saturation is delivered (R146, R154). -/
def leavingTold (d : DriveId) (s : State) : State :=
  if endsSaturation (getDrive s d) then deliverSaturated d false s else s

/-- A drive record with the bridge off (R148). -/
def bridgeOff (r : Drive) : Drive :=
  { r with mode := .off, shadow := 0, active := 0, cutRun := 0, cutFlag := false, dir := false }

/-- A drive record after an OFF command (R146, R148). -/
def offRecord (r : Drive) : Drive := if r.mode = .off ∨ r.mode = .fault then r else bridgeOff (leftRecord r)

/-! ### The condition table (R172) -/

/-- The condition table holds what the producers hold (R28, R118, R138, R143, R154, R172). -/
def ConditionsSafe (s : State) : Prop :=
  s.counters.conditions =
    { slipWheel := s.wheels.slip
      slipYaw := s.intake.yawSlip
      satTilt := s.drives.tilt.saturated
      satSteer := s.drives.steer.saturated
      degradedUnaged := quality s == .unaged
      degradedStale := quality s == .stale
      leanLimited := s.law.flags.limit }

/-! ### What is due (logs 3 and 5) -/

/-- The event a command stands for is there to be taken by the part itself now: a timer stands at its expiry (R4, R42, R94, R109,
R123, R137, R149, R151, R157, R161, R176, R192, R200, R217), or the regime controller has a completion to take (R32, R39, R51,
R53, R55, R58). The levels a due event samples are those held. -/
def isDue (s : State) : Instr → Prop
  | .leaveInit => s.regime.regime = .init ∧ s.store.operation ≠ some .startUp
  | .brakeReleased tside sside =>
    tside = s.pins.tside ∧ sside = s.pins.sside ∧ s.drives.brake.state = .released ∧
      (s.regime.regime = .unlocking ∨ (s.regime.regime = .homing ∧ s.regime.phase = some .releasing))
  | .brakeEngaged =>
    s.drives.brake.state = .engaged ∧
      (s.regime.regime = .locking ∨ (s.regime.regime = .homing ∧ s.regime.phase = some .engaging) ∨
        (s.regime.regime = .safe ∧ s.regime.safeHolding = some true))
  | .gapTimerExpiry => s.link.gapTimer = some (now s)
  | .missedStrobe =>
    s.timeBase.sync ≠ .unsynced ∧
      ∃ g, s.timeBase.gridStart = some g ∧ elapsed g (now s) = (par s).framePeriod + (par s).strobeWindow
  | .freshnessDeadlineExpiry => s.intake.deadline = some (now s)
  | .suspectTimerExpiry c =>
    (getChannel s c).state = .suspect ∧ ∃ t, (getChannel s c).suspectStart = some t ∧ now s = after t 10000000
  | .stopTimerExpiry w => (getWheel s w).state = .rolling ∧ now s = after (getWheel s w).lastEdge 250000
  | .creepTimerExpiry d => (getDrive s d).creepTimer = some (now s)
  | .brakeTimerExpiry => s.drives.brake.timer = some (now s)
  | .pollLimitExpiry => s.store.pollLimit = some (now s)
  | .statusTimerExpiry => s.link.statusTimer = some (now s)
  | .millisecondTimerExpiry i =>
    ∃ m, s.counters.counters[i].mark = some m ∧ now s = after m (1000 - s.counters.counters[i].remainder)
  | .releaseBlendExpiry =>
    s.regime.regime = .release ∧ ∃ b, s.regime.blend = some b ∧ b.kind = .release ∧ b.expiry = now s
  | .captureBlendExpiry =>
    s.regime.regime = .capture ∧ ∃ b, s.regime.blend = some b ∧ b.kind = .capture ∧ b.expiry = now s
  | .lawExpiry => s.law.timer = some (now s) ∧ s.regime.regime ≠ .init
  | .loopExpiry tside sside =>
    tside = s.pins.tside ∧ sside = s.pins.sside ∧ (now s).toNat % 500 = 0 ∧ s.drives.latestLoop ≠ now s
  | .pwmBoundary toc soc =>
    toc = s.pins.toc ∧ soc = s.pins.soc ∧ (now s).toNat % 50 = 0 ∧ s.drives.periodStart ≠ now s
  | .powerOnReset _ | .commandReset | .linkByte _ | .unknownKind _ _ | .motion _ | .align _ | .ride | .park | .home | .clear
  | .paramSet _ _ | .paramGet _ | .mapSet _ _ _ _ _ | .mapGet _ | .counterSet _ _ _ _ _ _ | .counterRead | .counterClear _
  | .historyRead | .status | .save | .load | .reset | .transmitEnd | .strobe | .lineEvent _ _ _ | .wheelEdge _
  | .overcurrentCut _ | .brksRise | .brksFall | .readStatusDone _ | .headerReadDone _ | .bodyReadDone _ | .writeEnableDone
  | .sectorEraseDone | .pageProgramDone | .verifyReadDone _ => False

/-! ### Channels, wheels, time base, intake and counters -/

/-- A channel record (R80, R84). -/
structure ChannelSafe (c : Channel) : Prop where
  tallyBound : c.tally ≤ 65535
  suspectHeld : c.suspectStart.isSome = true ↔ c.state = .suspect

/-- A wheel record (R102, R103). -/
structure WheelSafe (w : Wheel) : Prop where
  periodHeld : w.lastPeriod.isSome = true → w.state = .rolling
  stillSpeed : w.state ≠ .rolling → w.lastSpeed = 0
  speedBound : w.lastSpeed ≤ 4000

/-- The time base (R122, R124 to R127, R129). -/
structure TimeBaseSafe (t : TimeBase) : Prop where
  grid : t.gridStart.isSome = true ↔ t.sync ≠ .unsynced
  unsynced : t.sync = .unsynced → t.aligned = false ∧ t.goodRun = 0 ∧ t.missedRun = 0
  syncing : t.sync = .syncing → 1 ≤ t.goodRun ∧ t.goodRun ≤ 3 ∧ t.missedRun = 0
  locked : t.sync = .locked → t.goodRun = 4 ∧ t.missedRun ≤ 2
  holdover : t.sync = .holdover → t.goodRun ≤ 3 ∧ t.missedRun ≤ 49

/-- The motion intake's runs (R142). -/
structure IntakeSafe (i : Intake) : Prop where
  mismatchBound : i.mismatchRun ≤ 3
  matchBound : i.matchRun ≤ 3
  oneRun : i.mismatchRun = 0 ∨ i.matchRun = 0

/-- A counter record beside a condition table (R170, R173, R176, R179, R180, R183). -/
structure CounterSafe (t : Conditions) (c : Counter) : Prop where
  valueBound : c.value ≤ counterMax
  thresholdBound : c.config.threshold ≤ counterMax
  reachedHeld : c.reached = true → c.config.threshold ≠ 0 ∧ c.config.threshold ≤ c.value
  modeFits : ∀ e, c.config.event = some e → modeValid c.config.mode e = true
  none : c.config.event = none → c.value = 0 ∧ c.reached = false
  markHeld : c.mark.isSome = true ↔ (c.config.mode = .duration ∧ selectedCondition c.config t = true)

/-- The records of the blocks that measure and count. -/
structure RecordsSafe (s : State) : Prop where
  tilt : ChannelSafe s.channels.tilt
  steer : ChannelSafe s.channels.steer
  bar : ChannelSafe s.channels.bar
  fl : WheelSafe s.wheels.fl
  fr : WheelSafe s.wheels.fr
  rr : WheelSafe s.wheels.rr
  timeBase : TimeBaseSafe s.timeBase
  intake : IntakeSafe s.intake
  counters : ∀ c ∈ s.counters.counters.toList, CounterSafe s.counters.conditions c

/-- A safe state. -/
structure Safe (s : State) : Prop where
  link : LinkSafe s.link
  store : StoreSafe s.store
  limits : LimitsSafe s
  regime : RegimeSafe s
  drives : DrivesSafe s
  conditions : ConditionsSafe s
  records : RecordsSafe s

end Sys2Proof.Machine
end

