-- ==== Sys2Proof/WellFormed.lean ====
section
/-! DEFINITION. Which command operands stand for an event that can reach the part. The meanings are total: an ill-formed
command is not stopped by the machine, it is only outside the forms the spec describes. -/

namespace Sys2Proof

/-- The request kinds of the table of R202. -/
def requestKindCodes : List Byte :=
  [0x01, 0x02, 0x10, 0x11, 0x12, 0x13, 0x20, 0x21, 0x22, 0x23, 0x30, 0x31, 0x32, 0x33, 0x34, 0x40, 0x41, 0x7F]

/-- A command is well formed when its operands fit the event it names: a frame's payload is at most 48 bytes (R189), the
kind of an unknown-kind frame is no request kind (R195), and an image body is 72 + 3 × tuple count bytes with at most 64
tuples (R218). -/
def Instr.wellFormed : Instr → Bool
  | .unknownKind kind payload => !requestKindCodes.contains kind && payload.length ≤ 48
  | .motion payload => payload.length ≤ 48
  | .bodyReadDone bytes => 72 ≤ bytes.length && bytes.length ≤ 264 && bytes.length % 3 == 0
  | .powerOnReset _ | .commandReset | .linkByte _ | .gapTimerExpiry | .align _ | .ride | .park | .home | .clear
  | .paramSet _ _ | .paramGet _ | .mapSet _ _ _ _ _ | .mapGet _ | .counterSet _ _ _ _ _ _ | .counterRead
  | .counterClear _ | .historyRead | .status | .save | .load | .reset | .transmitEnd | .statusTimerExpiry | .strobe
  | .missedStrobe | .freshnessDeadlineExpiry | .lineEvent _ _ _ | .suspectTimerExpiry _ | .wheelEdge _
  | .stopTimerExpiry _ | .lawExpiry | .releaseBlendExpiry | .captureBlendExpiry | .leaveInit | .brakeReleased _ _
  | .brakeEngaged | .pwmBoundary _ _ | .loopExpiry _ _ | .overcurrentCut _ | .creepTimerExpiry _ | .brksRise | .brksFall
  | .brakeTimerExpiry | .millisecondTimerExpiry _ | .readStatusDone _ | .pollLimitExpiry | .headerReadDone _
  | .writeEnableDone | .sectorEraseDone | .pageProgramDone | .verifyReadDone _ => true

end Sys2Proof
end

