-- ==== Sys2Proof/Certificates/Slice0/Obligations.lean ====
section
/-! DEFINITION. The statements for the provers. -/

open Sys2Proof Sys2Proof.Machine

/-! ### Steps and resets -/

/-- A step takes the command at the front of the queue. -/
def Obligations.StepRunsTheFrontCommand : Prop :=
  ∀ (c : Instr) (rest : List Instr) (s : State),
    step { s with pending := c :: rest } = exec c { s with pending := rest }

/-- On an empty queue a step takes an event of the part that is due, or one microsecond passes and nothing else changes: the
model's choice of logs 1 and 2 over R121. What is taken is an event whose timer stands at its expiry or a completion that is
there (`isDue`; logs 3 and 5), and time passes only when no event is. -/
def Obligations.StepOnAnEmptyQueue : Prop :=
  ∀ s : State,
    (s.pending = [] →
      (∀ c, nextDue s = some c → step s = exec c s) ∧
      (nextDue s = none →
        step s = .next { s with timeBase := { s.timeBase with localTime := s.timeBase.localTime + 1 } })) ∧
    (∀ c, nextDue s = some c → isDue s c) ∧
    (nextDue s = none ↔ ∀ c, ¬ isDue s c)

/-- The reset values of the state tables of R5, R31, R65, R102, R122, R135, R145, R161, R170, R172 and R188. That State.reset
stands at the end of a power-on reset that finds BRKS high is the model's choice of logs 4 and 20. -/
def Obligations.ResetValues : Prop :=
  State.reset.law = ⟨none, 0, 0, 0, [], ⟨false, false, false⟩, ⟨false, false⟩, none, 1024⟩ ∧
  State.reset.regime = ⟨.init, none, none, none, none, none, []⟩ ∧
  State.reset.wheels = ⟨⟨.stopped, 0, none, 0⟩, ⟨.stopped, 0, none, 0⟩, ⟨.stopped, 0, none, 0⟩, false, none⟩ ∧
  State.reset.timeBase = ⟨0, .unsynced, 0, none, false, 0, 0⟩ ∧
  State.reset.intake = ⟨none, none, 0, 0, 0, false⟩ ∧ quality State.reset = .stale ∧
  State.reset.drives.tilt = ⟨.off, none, none, 0, 0, 0, false, none, none, false, false⟩ ∧
  State.reset.drives.steer = ⟨.off, none, none, 0, 0, 0, false, none, none, false, false⟩ ∧
  State.reset.drives.brake = ⟨.engaging, false, some 150000⟩ ∧
  (∀ i : Fin 8, State.reset.counters.counters[i] = ⟨⟨none, 0, .count, 0, .none⟩, 0, false, 0, none⟩) ∧
  State.reset.counters.conditions = ⟨false, false, false, false, false, true, false⟩ ∧
  State.reset.link = ⟨.hunt, none, [], .opened, [], none, none, none, none, none, none, some 100000, none⟩

/-- POWER_ON_RESET takes every block to its power-on state and begins the start-up load; a BRKS that is low leaves the brake
ENGAGED at once (R80, R161, R216, R220). That the pin levels are an operand (log 4), that the queue of commands stays (log
19) and that the first ready poll with its limit runs from the end of the reset (log 20) are the model's choices. While
handover is CLOSED, the end of the RESET reply is the command reset, whether it comes as COMMAND_RESET or as the end of the
frame (two names for one event, the model's reading of log 8); the working calibration and the pin levels are kept (R206,
R207, R209, R224). -/
def Obligations.ResetStates : Prop :=
  (∀ (levels : PinLevels) (s : State), ∃ t,
    exec (.powerOnReset levels) s = .next t ∧
    t.pending = s.pending ∧ t.pins = levels.pins ∧
    t.channels =
      ⟨⟨.unhomed, 0, .positive, levels.tilt, 0, none, none⟩, ⟨.unhomed, 0, .positive, levels.steer, 0, none, none⟩,
       ⟨.unhomed, 0, .positive, levels.bar, 0, none, none⟩⟩ ∧
    t.drives.brake = (if levels.pins.brks then ⟨.engaging, false, some 150000⟩ else ⟨.engaged, false, none⟩) ∧
    t.drives.tilt = State.reset.drives.tilt ∧ t.drives.steer = State.reset.drives.steer ∧
    t.store = ⟨⟨defaultParams, defaultMap⟩, .loading, some .startUp, none, some 1000000, some .loadPoll⟩ ∧
    t.law = State.reset.law ∧ t.regime = State.reset.regime ∧ t.wheels = State.reset.wheels ∧
    t.timeBase = State.reset.timeBase ∧ t.intake = State.reset.intake ∧ t.counters = State.reset.counters ∧
    t.link = State.reset.link) ∧
  (∀ s : State, s.link.handover = .closed → s.link.transmitter = some ⟨⟨0x80, [0x7F]⟩, []⟩ →
    exec .commandReset s = exec .transmitEnd s ∧
    ∃ t, exec .commandReset s = .next t ∧
      t.pending = s.pending ∧ t.pins = s.pins ∧
      t.store = ⟨s.store.working, .idle, none, none, none, none⟩ ∧
      t.link =
        { State.reset.link with
          statusTimer :=
            if (par s).reportPeriod = 0 then none else some (BitVec.ofNat 48 (1000 * (par s).reportPeriod)) } ∧
      t.channels =
        ⟨⟨.unhomed, 0, .positive, s.channels.tilt.lines, 0, none, none⟩,
         ⟨.unhomed, 0, .positive, s.channels.steer.lines, 0, none, none⟩,
         ⟨.unhomed, 0, .positive, s.channels.bar.lines, 0, none, none⟩⟩ ∧
      t.drives.brake = (if s.pins.brks then ⟨.engaging, false, some 150000⟩ else ⟨.engaged, false, none⟩) ∧
      t.drives.tilt = State.reset.drives.tilt ∧ t.drives.steer = State.reset.drives.steer ∧
      t.law = State.reset.law ∧ t.regime = State.reset.regime ∧ t.wheels = State.reset.wheels ∧
      t.timeBase = State.reset.timeBase ∧ t.intake = State.reset.intake ∧ t.counters = State.reset.counters)

/-! ### Invariants -/

/-- The state right after reset is safe. -/
def Obligations.ResetIsSafe : Prop := Safe State.reset

/-- Every step keeps the link's bounds and waiting rules (R188, R191, R193, R194, R196, R197). -/
def Obligations.StepKeepsLinkSafe : Prop :=
  ∀ s t : State, LinkSafe s.link → step s = .next t → LinkSafe t.link

/-- Every step keeps the calibration within its ranges, its cross-constraints and its map order, and the store state in
agreement with its operation (R210 to R212, R215, R216, R219). -/
def Obligations.StepKeepsStoreSafe : Prop :=
  ∀ s t : State, StoreSafe s.store → step s = .next t → StoreSafe t.store

/-- Every step keeps the published targets, the camber estimate and the duties within the limits in force, through every
write of a limit (R23, R24, R74, R76, R139, R140, R150). -/
def Obligations.StepKeepsLimitsSafe : Prop :=
  ∀ s t : State, LimitsSafe s → step s = .next t → LimitsSafe t

/-- Every step keeps the presence rules of the regime controller, the form of the abort history and the length of the bar
ring (R25, R31, R42, R62, R63). -/
def Obligations.StepKeepsRegimeSafe : Prop :=
  ∀ s t : State, RegimeSafe s → step s = .next t → RegimeSafe t

/-- Every step keeps the drives and the brake safe: no duty on a bridge that is off, no brake output in INIT, PARKED and SAFE,
and the tilt drive in RUN only while riding (R30, R145, R148, R160, R161). -/
def Obligations.StepKeepsDrivesSafe : Prop :=
  ∀ s t : State, DrivesSafe s → step s = .next t → DrivesSafe t

/-- Every step keeps the condition table equal to what the producers hold (R172). -/
def Obligations.StepKeepsConditionsSafe : Prop :=
  ∀ s t : State, ConditionsSafe s → step s = .next t → ConditionsSafe t

/-- Every step keeps the records of the channels, the wheels, the time base, the motion intake and the counters in form (R80,
R102, R122, R135, R142, R170). -/
def Obligations.StepKeepsRecordsSafe : Prop :=
  ∀ s t : State, RecordsSafe s → step s = .next t → RecordsSafe t

/-- A regime is entered only from the regimes the table of 02 §2.1 names; UNLOCKING only with TILT, STEER and BAR HOMED, no
fault latched and the brake ENGAGED (R37). With an empty receive queue a command takes at most one request. -/
def Obligations.RegimeChangesFollowTheTable : Prop :=
  ∀ (c : Instr) (s t : State), s.link.receiveQueue = [] → exec c s = .next t →
    (t.regime.regime = s.regime.regime ∨ mayEnter s.regime.regime t.regime.regime = true) ∧
    (t.regime.regime = .unlocking → s.regime.regime ≠ .unlocking →
      allHomed s = true ∧ faultLatched s = false ∧ s.drives.brake.state = .engaged)

/-! ### Encodings -/

/-- The receiver reads back what a transmitter sends: the characters of a frame, taken one after another from HUNT, give that
frame as a good frame or an overrun, with the receiver in HUNT and the gap timer stopped (R189 to R191, R193). -/
def Obligations.FramesRoundTrip : Prop :=
  (∀ (b : Byte) (s : State), exec (.linkByte b) s = .next (linkByteStep b s)) ∧
  ∀ (f : Frame) (s : State), f.payload.length ≤ 48 → s.link.receiver = .hunt →
    (frameLine f).foldl (fun u b => linkByteStep b u) s =
      goodFrame f { s with link := { s.link with receiver := .hunt, gapTimer := none } }

/-- Every request command that is handed over at its entry reaches its owner with its operands as given: they survive the
layouts of R208 and the checks of R195. That a request command is a request frame presented to the receive queue is the model's
choice of log 6. -/
def Obligations.OperandsRoundTrip : Prop :=
  ∀ s : State, TakesAtOnce s →
    (∀ payload, exec (.motion payload) s = .next (takeMotion payload s)) ∧
    (∀ n, exec (.align n) s = .next (takeAlign n s)) ∧
    exec .ride s = .next (takeRide s) ∧ exec .park s = .next (takePark s) ∧
    exec .home s = .next (takeHome s) ∧ exec .clear s = .next (takeClear s) ∧
    (∀ id value, exec (.paramSet id value) s = .next (takeParamSet id value s)) ∧
    (∀ id, exec (.paramGet id) s = .next (takeParamGet id s)) ∧
    (∀ point speed kc kcs lmax,
      exec (.mapSet point speed kc kcs lmax) s = .next (takeMapSet point speed kc kcs lmax s)) ∧
    (∀ point, exec (.mapGet point) s = .next (takeMapGet point s)) ∧
    (∀ counter event mask mode threshold action,
      exec (.counterSet counter event mask mode threshold action) s =
        .next (takeCounterSet counter event mask mode threshold action s)) ∧
    exec .counterRead s = .next (takeCounterRead s) ∧
    (∀ mask, exec (.counterClear mask) s = .next (takeCounterClear mask s)) ∧
    exec .historyRead s = .next (takeHistoryRead s) ∧ exec .status s = .next (takeStatus s) ∧
    exec .save s = .next (takeSave s) ∧ exec .load s = .next (takeLoad s) ∧ exec .reset s = .next (takeReset s)

/-- A saved image loads back as the calibration saved: it has 176 bytes, its header passes, its body agrees with its CRC, and
the load ends VALID with exactly that calibration in force and the store IDLE (R218, R219, R222). -/
def Obligations.SavedImageLoadsBack : Prop :=
  ∀ (c : Calibration) (s : State) (header : Vector Byte 8), CalibrationSafe c →
    header.toList = (imageBytes c).take 8 → s.store.step = some .loadHeader →
    (imageBytes c).length = 176 ∧
    ∃ t u, exec (.headerReadDone header) s = .next t ∧
      t.store.step = some (.loadBody 32 (crc16 ((imageBytes c).drop 8))) ∧
      exec (.bodyReadDone ((imageBytes c).drop 8)) t = .next u ∧
      u.store.working = c ∧ u.store.state = .idle ∧ u.store.step = none

/-! ### The message link -/

/-- A byte is taken by the receiver state, as the table of R191 gives, and the CRC low byte by R193; the gap timer's expiry
drops the partial frame with one LINK_FRAME event of sub-kind GAP (R192). -/
def Obligations.LinkReception : Prop :=
  ∀ (b : Byte) (s : State),
    (s.link.receiver = .hunt → b = 0xC3 →
      exec (.linkByte b) s =
        .next { s with link := { s.link with receiver := .len, gapTimer := some (after (now s) 2000) } }) ∧
    (s.link.receiver = .hunt → b ≠ 0xC3 → exec (.linkByte b) s = .next s) ∧
    (s.link.receiver = .len → b.toNat ≤ 48 →
      exec (.linkByte b) s =
        .next { s with link := { s.link with receiver := .kind b.toNat, gapTimer := some (after (now s) 2000) } }) ∧
    (s.link.receiver = .len → 48 < b.toNat →
      exec (.linkByte b) s =
        .next (deliver .linkFrame 16 { s with link := { s.link with receiver := .hunt, gapTimer := none } })) ∧
    (∀ n, s.link.receiver = .kind n →
      exec (.linkByte b) s =
        .next { s with
          link := { s.link with
            receiver := if n = 0 then .crcHi b [] else .payload n b []
            gapTimer := some (after (now s) 2000) } }) ∧
    (∀ n k taken, s.link.receiver = .payload n k taken → taken.length < n →
      exec (.linkByte b) s =
        .next { s with
          link := { s.link with
            receiver := if taken.length + 1 = n then .crcHi k (taken ++ [b]) else .payload n k (taken ++ [b])
            gapTimer := some (after (now s) 2000) } }) ∧
    (∀ k p, s.link.receiver = .crcHi k p →
      exec (.linkByte b) s =
        .next { s with link := { s.link with receiver := .crcLo k p b, gapTimer := some (after (now s) 2000) } }) ∧
    (∀ k p h, s.link.receiver = .crcLo k p h → frameCrc k p ≠ h ++ b →
      exec (.linkByte b) s =
        .next (deliver .linkFrame 2 { s with link := { s.link with receiver := .hunt, gapTimer := none } })) ∧
    (∀ k p h, s.link.receiver = .crcLo k p h → frameCrc k p = h ++ b → 4 ≤ s.link.receiveQueue.length →
      exec (.linkByte b) s =
        .next (deliver .linkFrame 4 { s with link := { s.link with receiver := .hunt, gapTimer := none } })) ∧
    (∀ k p h, s.link.receiver = .crcLo k p h → frameCrc k p = h ++ b → s.link.receiveQueue.length < 4 →
      exec (.linkByte b) s =
        .next (proceedHandover (deliver .linkFrame 1
          { s with
            link := { s.link with
              receiver := .hunt, gapTimer := none, receiveQueue := s.link.receiveQueue ++ [⟨k, p⟩] } }))) ∧
    (s.link.gapTimer = some (now s) →
      exec .gapTimerExpiry s =
        .next (deliver .linkFrame 8 { s with link := { s.link with receiver := .hunt, gapTimer := none } }))

/-- A frame whose KIND is no request kind is refused with UNKNOWN_KIND whatever its length, and a request of a wrong length
with BAD_LENGTH; neither reaches an owner (R195). A request that may not be taken waits in the receive queue and changes
nothing else; a full receive queue drops it (R193, R194; that a presented request delivers no LINK_FRAME event is the model's
choice of log 6). -/
def Obligations.Handovers : Prop :=
  (∀ (kind : Byte) (payload : List Byte) (s : State), TakesAtOnce s → kind ∉ requestKindCodes →
    exec (.unknownKind kind payload) s =
      .next { s with
        link := selectToSend { s.link with replyQueue := s.link.replyQueue ++ [.refused kind .unknownKind] } }) ∧
  (∀ (k : RequestKind) (n : Nat) (payload : List Byte) (s : State), requiredLength k = some n → payload.length ≠ n →
    handOver ⟨kindByte k, payload⟩ s =
      { s with
        link := selectToSend { s.link with replyQueue := s.link.replyQueue ++ [.refused (kindByte k) .badLength] } }) ∧
  (∀ (c : Instr) (f : Frame) (s : State), requestFrame c = some f →
    (∀ g rest, s.link.receiveQueue ++ [f] = g :: rest → mayTake g s.link = false) →
    (s.link.receiveQueue.length < 4 →
      exec c s = .next { s with link := { s.link with receiveQueue := s.link.receiveQueue ++ [f] } }) ∧
    (4 ≤ s.link.receiveQueue.length → exec c s = .next s))

/-- The end of a frame sends the second frame of the same reply without a selection, else makes the transmitter idle, which
selects and lets handover proceed; while handover is CLOSED no frame is handed over (R194, R197, R198, R207; that the end of a
frame with an idle transmitter changes nothing is the model's choice of log 3). Handover takes the waiting frames one after
another, each once it is a MOTION frame or there is room for a reply (R194). The status timer's expiry forms a record, puts it in
the slot, restarts the timer and lets an idle transmitter select (R197, R200). LTX is high while the transmitter is IDLE, and
each character of a frame in progress is a low start bit, its data bits least significant first and a high stop bit; a character
is taken with its data bits, whatever its stop bit (R188, R189; when a bit time falls is left out, log 10). -/
def Obligations.TransmitterEvents : Prop :=
  (∀ s : State, s.link.statusTimer = some (now s) →
    exec .statusTimerExpiry s =
      .next { s with
        link := selectToSend { s.link with
          statusSlot := some (statusRecord s)
          statusTimer := some (after (now s) (1000 * (par s).reportPeriod)) } }) ∧
  (∀ s : State, s.link.handover = .opened →
    (s.link.transmitter = none → exec .transmitEnd s = .next s) ∧
    (∀ f g rest, s.link.transmitter = some ⟨f, g :: rest⟩ →
      exec .transmitEnd s = .next { s with link := { s.link with transmitter := some ⟨g, rest⟩ } }) ∧
    (∀ f, s.link.transmitter = some ⟨f, []⟩ → s.link.receiveQueue = [] →
      exec .transmitEnd s = .next { s with link := selectToSend { s.link with transmitter := none } }) ∧
    (∀ f g, s.link.transmitter = some ⟨f, []⟩ → s.link.receiveQueue = [g] → s.link.replyQueue.length = 4 →
      exec .transmitEnd s =
        .next (handOver g
          { s with link := { selectToSend { s.link with transmitter := none } with receiveQueue := [] } })) ∧
    (∀ f, s.link.transmitter = some ⟨f, []⟩ →
      exec .transmitEnd s =
        .next (proceedHandover { s with link := selectToSend { s.link with transmitter := none } }))) ∧
  (∀ s : State, s.link.handover = .closed →
    (s.link.transmitter = none → exec .transmitEnd s = .next s) ∧
    (∀ f g rest, s.link.transmitter = some ⟨f, g :: rest⟩ →
      exec .transmitEnd s = .next { s with link := { s.link with transmitter := some ⟨g, rest⟩ } }) ∧
    (∀ f, s.link.transmitter = some ⟨f, []⟩ → f ≠ ⟨0x80, [0x7F]⟩ →
      exec .transmitEnd s = .next { s with link := selectToSend { s.link with transmitter := none } })) ∧
  (∀ s : State,
    (s.link.receiveQueue = [] → proceedHandover s = s) ∧
    ∀ g rest, s.link.receiveQueue = g :: rest →
      (s.link.handover = .opened → g.kind = 0x01 ∨ s.link.replyQueue.length < 4 →
        proceedHandover s = proceedHandover (handOver g { s with link := { s.link with receiveQueue := rest } })) ∧
      (s.link.handover = .closed ∨ (g.kind ≠ 0x01 ∧ 4 ≤ s.link.replyQueue.length) → proceedHandover s = s)) ∧
  (∀ l : Link,
    (l.transmitter = none → ∀ i, ltxHigh l i = true) ∧
    ∀ f more, l.transmitter = some ⟨f, more⟩ →
      (frameBits f).length = 10 * (frameLine f).length ∧
      ∀ (k : Nat) (b : Byte), (frameLine f)[k]? = some b →
        ltxHigh l (10 * k) = false ∧ (∀ j, j < 8 → ltxHigh l (10 * k + 1 + j) = b.getLsbD j) ∧
          ltxHigh l (10 * k + 9) = true) ∧
  (∀ (b : Byte) (stop : Bool), receivedByte ((characterBits b).take 9 ++ [stop]) = b)

/-- An idle transmitter selects the oldest reply, else the first pending notice in the order REGIME, FAULT, STORE, THRESHOLD,
TIMEBASE, else the status record; the item leaves its queue or slot. A sending transmitter selects nothing (R197). -/
def Obligations.SelectionOrder : Prop :=
  ∀ l : Link,
    (l.transmitter.isSome = true → selectToSend l = l) ∧
    (l.transmitter = none →
      (∀ r rest, l.replyQueue = r :: rest →
        ∃ f more, replyFrames r = f :: more ∧
          selectToSend l = { l with replyQueue := rest, transmitter := some ⟨f, more⟩ }) ∧
      (l.replyQueue = [] →
        (∀ n, l.regimeSlot = some n →
          selectToSend l = { l with regimeSlot := none, transmitter := some ⟨regimeNoticeFrame n, []⟩ }) ∧
        (∀ n, l.regimeSlot = none → l.faultSlot = some n →
          selectToSend l = { l with faultSlot := none, transmitter := some ⟨faultNoticeFrame n, []⟩ }) ∧
        (∀ n, l.regimeSlot = none → l.faultSlot = none → l.storeSlot = some n →
          selectToSend l = { l with storeSlot := none, transmitter := some ⟨storeNoticeFrame n, []⟩ }) ∧
        (∀ n, l.regimeSlot = none → l.faultSlot = none → l.storeSlot = none → l.thresholdSlot = some n →
          selectToSend l = { l with thresholdSlot := none, transmitter := some ⟨thresholdNoticeFrame n, []⟩ }) ∧
        (∀ n, l.regimeSlot = none → l.faultSlot = none → l.storeSlot = none → l.thresholdSlot = none →
          l.timebaseSlot = some n →
          selectToSend l = { l with timebaseSlot := none, transmitter := some ⟨timebaseNoticeFrame n, []⟩ }) ∧
        (∀ r, l.regimeSlot = none → l.faultSlot = none → l.storeSlot = none → l.thresholdSlot = none →
          l.timebaseSlot = none → l.statusSlot = some r →
          selectToSend l = { l with statusSlot := none, transmitter := some ⟨statusReportFrame r, []⟩ }) ∧
        (NothingPending l → selectToSend l = l)))

/-- Every reply fits frames of at most 48 payload bytes: one frame, or two for a HISTORY_READ of more than 4 records (R198,
R205). -/
def Obligations.RepliesFitTheirFrames : Prop :=
  ∀ r : Reply,
    (∀ values, r = .accepted (.counterRead values) → values.length = 8) →
    (∀ records, r = .accepted (.historyRead records) → records.length ≤ 8) →
    (∀ f ∈ replyFrames r, f.payload.length ≤ 48) ∧
    ((replyFrames r).length = 1 ∨
      ((replyFrames r).length = 2 ∧ ∃ records, r = .accepted (.historyRead records) ∧ 4 < records.length))

/-! ### Requests -/

/-- PARAM_GET and MAP_GET answer with what is held, in every regime and store state, and refuse an id or point that does not
exist (R214). -/
def Obligations.GetRequests : Prop :=
  ∀ s : State, TakesAtOnce s →
    (∀ (p : Param) (id : Byte), id.toNat = (paramRow p).id →
      exec (.paramGet id) s = .next (accept (.paramGet id (getParam (par s) p)) s)) ∧
    (∀ id : Byte, id.toNat = 0 ∨ 32 < id.toNat →
      exec (.paramGet id) s = .next (refuse .paramGet .badValue s)) ∧
    (∀ (point : Byte) (h : point.toNat < 9),
      exec (.mapGet point) s = .next (accept (.mapGet point s.store.working.map[point.toNat]) s)) ∧
    (∀ point : Byte, 9 ≤ point.toNat → exec (.mapGet point) s = .next (refuse .mapGet .badValue s))

/-- COUNTER_READ, HISTORY_READ and STATUS answer from what stands and change nothing but the reply queue and what the
transmitter takes from it (R64, R185, R201, R205). -/
def Obligations.ReadRequests : Prop :=
  ∀ s : State, TakesAtOnce s →
    exec .counterRead s =
      .next (accept (.counterRead (s.counters.counters.toList.map (fun c => (c.value, c.reached)))) s) ∧
    exec .historyRead s = .next (accept (.historyRead s.regime.history) s) ∧
    exec .status s =
      .next (accept (.status
        { regime := s.regime.regime
          alpha := alphaAt s.regime.regime s.regime.blend (now s)
          vLaw := (selectedSpeed s).getD 0
          speedUnknown := (selectedSpeed s).isNone
          wheelSlip := s.wheels.slip
          yawSlip := s.intake.yawSlip
          inhibited := inhibitedAt s.regime.history (msOf (now s))
          aligned := s.timeBase.aligned
          phiT := s.law.phiT
          lambdaT := s.law.lambdaT
          lambdaM := angle s .tilt
          deltaT := s.law.deltaT
          deltaM := angle s .steer
          b := s.law.latestB.bind (fun i => if i.valid then some i.b else none)
          cEst := s.intake.cEst
          cap := s.law.latestCap
          quality := quality s
          sync := s.timeBase.sync
          tiltState := s.channels.tilt.state
          steerState := s.channels.steer.state
          barState := s.channels.bar.state
          tiltMode := s.drives.tilt.mode
          steerMode := s.drives.steer.mode
          brake := s.drives.brake.state
          store := s.store.state
          time := msOf (now s) }) s) ∧
    (∀ data : ReplyData,
      accept data s =
        { s with link := selectToSend { s.link with replyQueue := s.link.replyQueue ++ [.accepted data] } })

/-- RESET is accepted in PARKED, and in SAFE below V_PARK with an unknown speed counting as 0, whatever the store does: the
reply is appended and handover is CLOSED. Elsewhere it is refused with WRONG_REGIME (R206). -/
def Obligations.ResetRequest : Prop :=
  ∀ s : State, TakesAtOnce s →
    (s.regime.regime = .parked ∨ (s.regime.regime = .safe ∧ (selectedSpeed s).getD 0 < (par s).vPark) →
      exec .reset s =
        .next { s with
          link := { selectToSend { s.link with replyQueue := s.link.replyQueue ++ [.accepted .reset] } with
            handover := .closed } }) ∧
    (¬ (s.regime.regime = .parked ∨ (s.regime.regime = .safe ∧ (selectedSpeed s).getD 0 < (par s).vPark)) →
      exec .reset s = .next (refuse .reset .wrongRegime s))

/-- ALIGN is checked for INIT, then for UNSYNCED; accepted, it sets the frame count and the aligned flag and nothing else of
the time base (R130). -/
def Obligations.AlignRequest : Prop :=
  ∀ (n : Half) (s : State), TakesAtOnce s →
    (s.regime.regime = .init → exec (.align n) s = .next (refuse .align .wrongRegime s)) ∧
    (s.regime.regime ≠ .init → s.timeBase.sync = .unsynced →
      exec (.align n) s = .next (refuse .align .notSynced s)) ∧
    (s.regime.regime ≠ .init → s.timeBase.sync ≠ .unsynced →
      exec (.align n) s =
        .next (accept (.align n) { s with timeBase := { s.timeBase with frameCount := n, aligned := true } }))

/-- RIDE is refused by the first check that fails, in the order of R37, and nothing but the reply comes of it; accepted, it
sets the targets, commands both drives RUN and the brake to release, and enters UNLOCKING, stated for drives that are OFF, as
PARKED has them (R22, R30, R37, R38, R75). Homed are all three channels, and a fault is latched in a drive, the brake or a wheel
(R37). That the REGIME notice is posted before the reply is the model's choice of log 9. -/
def Obligations.RideRequest : Prop :=
  (∀ s : State,
    (allHomed s = true ↔ ∀ c, (getChannel s c).state = .homed) ∧
    (faultLatched s = true ↔ (∃ d, (getDrive s d).mode = .fault) ∨ s.drives.brake.state = .brakeFault ∨
      ∃ w, (getWheel s w).state = .invalid)) ∧
  ∀ s : State, TakesAtOnce s →
    (s.regime.regime = .homing ∨ s.regime.regime = .locking → exec .ride s = .next (refuse .ride .busy s)) ∧
    (s.regime.regime ≠ .homing → s.regime.regime ≠ .locking → s.regime.regime ≠ .parked →
      exec .ride s = .next (refuse .ride .wrongRegime s)) ∧
    (s.regime.regime = .parked → s.store.state = .loading ∨ s.store.state = .saving →
      exec .ride s = .next (refuse .ride .busy s)) ∧
    (s.regime.regime = .parked → s.store.state = .idle ∨ s.store.state = .failed →
      (allHomed s = false → exec .ride s = .next (refuse .ride .notHomed s)) ∧
      (allHomed s = true → faultLatched s = true ∨ selectedSpeed s = none ∨ s.drives.brake.state ≠ .engaged →
        exec .ride s = .next (refuse .ride .faultActive s)) ∧
      (allHomed s = true → faultLatched s = false → s.drives.brake.state = .engaged →
        ∀ v, selectedSpeed s = some v →
          ((par s).vPark ≤ v → exec .ride s = .next (refuse .ride .tooFast s)) ∧
          (v < (par s).vPark → s.drives.tilt.mode = .off → s.drives.steer.mode = .off →
            exec .ride s =
              .next (accept .ride (postRegimeNotice ⟨.unlocking, .parked, none, 0, msOf (now s)⟩
                { s with
                  law := { s.law with
                    phiT := angleOfCount s.channels.tilt.count (par s).cprTilt + s.intake.cEst
                    lambdaT := clampSym (par s).tiltLimit (angleOfCount s.channels.tilt.count (par s).cprTilt)
                    deltaT :=
                      clampSym (par s).steerLimit (angleOfCount s.channels.steer.count (par s).cprSteer) }
                  regime := { s.regime with regime := .unlocking }
                  drives := { s.drives with
                    tilt := { s.drives.tilt with
                      mode := .run
                      holdTarget := none
                      ePrev := some (clampSym (par s).tiltLimit (angleOfCount s.channels.tilt.count (par s).cprTilt)
                        - angleOfCount s.channels.tilt.count (par s).cprTilt)
                      shadow := 0
                      satStart := none }
                    steer := { s.drives.steer with
                      mode := .run
                      holdTarget := none
                      ePrev :=
                        some (clampSym (par s).steerLimit (angleOfCount s.channels.steer.count (par s).cprSteer)
                          - angleOfCount s.channels.steer.count (par s).cprSteer)
                      shadow := 0
                      satStart := none }
                    brake :=
                      if s.pins.brks then ⟨.released, true, none⟩
                      else ⟨.releasing, true, some (after (now s) 150000)⟩ } })))))

/-- PARK by regime: accepted without change, to LOCKING with the brake engaging, or refused (R50). The abort of a release is
stated apart. That an unknown speed counts as 0 in UPRIGHT_HOLD is the model's reading of R34 (log 22), and that the REGIME
notice is posted before the reply its choice of log 9. -/
def Obligations.ParkRequest : Prop :=
  ∀ s : State, TakesAtOnce s →
    (s.regime.regime = .parked ∨ s.regime.regime = .locking → exec .park s = .next (accept (.park false) s)) ∧
    (s.regime.regime = .unlocking ∨ (s.regime.regime = .uprightHold ∧ (selectedSpeed s).getD 0 < (par s).vPark) →
      exec .park s =
        .next (accept (.park false)
          (postRegimeNotice ⟨.locking, s.regime.regime, none, 0, msOf (now s)⟩
            { s with
              regime := { s.regime with regime := .locking, dwellStart := none }
              drives := (commandEngage s).drives }))) ∧
    (s.regime.regime = .uprightHold → (par s).vPark ≤ (selectedSpeed s).getD 0 →
      exec .park s = .next (refuse .park .tooFast s)) ∧
    (s.regime.regime = .freeLean → exec .park s = .next (refuse .park .tooFast s)) ∧
    (s.regime.regime = .capture ∨ s.regime.regime = .homing → exec .park s = .next (refuse .park .busy s)) ∧
    (s.regime.regime = .init ∨ s.regime.regime = .safe → exec .park s = .next (refuse .park .wrongRegime s))

/-- PARK in RELEASE aborts the release: a record of R62, a CAPTURE blend from α now, a REGIME notice of CAPTURE with cause
PARK_REQUEST, one REGIME_EVENT with RELEASE_ABORT and CAPTURE_START, and from α 0 on to UPRIGHT_HOLD with its own notice
(R36, R42, R46, R47, R49, R63). Nothing else changes but what the counters and the THRESHOLD slot take from the event. That
the reply comes after the notices is the model's choice of log 9. -/
def Obligations.ParkAbortsARelease : Prop :=
  ∀ (b : Blend) (s : State), TakesAtOnce s → s.regime.regime = .release → s.regime.blend = some b →
    s.regime.history.length ≤ 8 →
    let a := min 1024 (1024 * elapsed b.t0 (now s) / (1000 * b.tBlend))
    let record : AbortRecord :=
      ⟨.parkRequest, .release, .capture, a, (selectedSpeed s).getD 0, msOf (now s)⟩
    let history := (if s.regime.history.length = 8 then s.regime.history.drop 1 else s.regime.history) ++ [record]
    let captured : State :=
      deliver .regimeEvent 6 (postRegimeNotice ⟨.capture, .release, some .parkRequest, a, msOf (now s)⟩
        { s with
          regime := { s.regime with
            regime := .capture
            blend := some ⟨.capture, now s, a, (par s).tBlend,
              after (now s) ((a * 1000 * (par s).tBlend + 1023) / 1024)⟩
            history := history } })
    ∃ t, exec .park s = .next (accept (.park true) t) ∧
      (a ≠ 0 → t = captured) ∧
      (a = 0 → t = postRegimeNotice ⟨.uprightHold, .capture, none, 0, msOf (now s)⟩
        { captured with
          regime := { s.regime with regime := .uprightHold, blend := none, dwellStart := none, history := history } }) ∧
      t.counters = (deliver .regimeEvent 6 s).counters ∧
      (a ≠ 0 → t.regime =
        { s.regime with
          regime := .capture
          blend := some ⟨.capture, now s, a, (par s).tBlend,
            after (now s) ((a * 1000 * (par s).tBlend + 1023) / 1024)⟩
          history := history }) ∧
      (a = 0 → t.regime =
        { s.regime with regime := .uprightHold, blend := none, dwellStart := none, history := history }) ∧
      t.pending = s.pending ∧ t.pins = s.pins ∧ t.timeBase = s.timeBase ∧ t.intake = s.intake ∧
      t.channels = s.channels ∧ t.wheels = s.wheels ∧ t.law = s.law ∧ t.drives = s.drives ∧ t.store = s.store

/-- HOME is checked in order; accepted, TILT and STEER seek unless in FAULT, the brake is released and the regime is HOMING in
phase RELEASING (R52, R90, R162). That the REGIME notice is posted before the reply is the model's choice of log 9. -/
def Obligations.HomeRequest : Prop :=
  ∀ s : State, TakesAtOnce s →
    (s.regime.regime ≠ .parked → exec .home s = .next (refuse .home .wrongRegime s)) ∧
    (s.regime.regime = .parked → s.store.state = .loading ∨ s.store.state = .saving →
      exec .home s = .next (refuse .home .busy s)) ∧
    (s.regime.regime = .parked → s.store.state = .idle ∨ s.store.state = .failed →
      (s.drives.brake.state ≠ .engaged → exec .home s = .next (refuse .home .faultActive s)) ∧
      (s.drives.brake.state = .engaged →
        exec .home s =
          .next (accept .home (postRegimeNotice ⟨.homing, .parked, none, 0, msOf (now s)⟩
            { s with
              regime := { s.regime with regime := .homing, phase := some .releasing }
              channels := { s.channels with
                tilt :=
                  if s.channels.tilt.state = .fault then s.channels.tilt
                  else { s.channels.tilt with state := .seeking, lastDiff := none, suspectStart := none }
                steer :=
                  if s.channels.steer.state = .fault then s.channels.steer
                  else { s.channels.steer with state := .seeking, lastDiff := none, suspectStart := none } }
              drives := { s.drives with
                brake :=
                  if s.pins.brks then ⟨.released, true, none⟩
                  else ⟨.releasing, true, some (after (now s) 150000)⟩ } }))))

/-- CLEAR is checked by regime and speed; accepted, every latched fault is dropped, wheel slip and its run are cleared when all
three wheels are then STOPPED, both drives are commanded OFF, the history is empty, the SAFE drive record is absent and the
regime is PARKED, with a REGIME notice only from SAFE (R61, R99, R112, R117, R146, R148, R160, R168). Nothing else changes but
what the counters and the THRESHOLD slot take from the two conditions that end. That they are told in the order of R61's list,
TILT before STEER, and the notice and the reply after them is the model's choice of logs 9 and 12. -/
def Obligations.ClearRequest : Prop :=
  ∀ s : State, TakesAtOnce s →
    (s.regime.regime = .homing → exec .clear s = .next (refuse .clear .busy s)) ∧
    (s.regime.regime ≠ .homing → s.regime.regime ≠ .parked → s.regime.regime ≠ .safe →
      exec .clear s = .next (refuse .clear .wrongRegime s)) ∧
    (s.regime.regime = .parked ∨ s.regime.regime = .safe →
      (selectedSpeed s = none → exec .clear s = .next (refuse .clear .tooFast s)) ∧
      ∀ v, selectedSpeed s = some v →
        ((par s).vPark ≤ v → exec .clear s = .next (refuse .clear .tooFast s)) ∧
        (v < (par s).vPark →
          let unlatched (c : ChannelId) : Channel :=
            if (getChannel s c).state = .fault then
              { getChannel s c with state := .unhomed, lastDiff := none, suspectStart := none }
            else getChannel s c
          let off (d : DriveId) : Drive :=
            if (getDrive s d).mode = .fault then bridgeOff (getDrive s d) else offRecord (getDrive s d)
          let wheel (w : WheelId) : Wheel :=
            if (getWheel s w).state = .invalid then ⟨.stopped, now s, none, 0⟩ else getWheel s w
          let still : Bool := decide (∀ w ∈ [WheelId.fl, .fr, .rr], (wheel w).state = .stopped)
          let slipless := if still = true ∧ s.wheels.slip = true then deliverSlipWheel false s else s
          let cleared : State :=
            { leavingTold .steer (leavingTold .tilt slipless) with
              regime := { s.regime with regime := .parked, history := [], safeHolding := none }
              channels := ⟨unlatched .tilt, unlatched .steer, unlatched .bar⟩
              wheels :=
                ⟨wheel .fl, wheel .fr, wheel .rr, s.wheels.slip && !still, if still then none else s.wheels.run⟩
              drives := { s.drives with
                tilt := off .tilt
                steer := off .steer
                brake :=
                  if s.drives.brake.state = .brakeFault then
                    if s.pins.brks then ⟨.engaging, false, some (after (now s) 150000)⟩ else ⟨.engaged, false, none⟩
                  else s.drives.brake } }
          exec .clear s =
            .next (accept .clear
              (if s.regime.regime = .safe then
                postRegimeNotice ⟨.parked, .safe, none, 0, msOf (now s)⟩ cleared
              else cleared))))

/-! ### Regimes -/

/-- LEAVE_INIT, after a command reset or once the start-up load has ended: both drives are OFF unless in FAULT, the regime is
PARKED with a REGIME notice, the law timer is started and the bar ring empty (R4, R25, R30, R32). With drives that are OFF or
in FAULT nothing else changes. -/
def Obligations.LeaveInit : Prop :=
  ∀ s : State, s.regime.regime = .init → s.store.operation ≠ some .startUp →
    (∃ t, exec .leaveInit s = .next t ∧
      (∀ d, (getDrive t d).mode = if (getDrive s d).mode = .fault then .fault else .off) ∧
      t.regime = { s.regime with regime := .parked } ∧
      t.law = { s.law with timer := some (after (now s) 2000), ring := [] } ∧
      t.pending = s.pending ∧ t.pins = s.pins ∧ t.timeBase = s.timeBase ∧ t.intake = s.intake ∧
      t.channels = s.channels ∧ t.wheels = s.wheels ∧ t.store = s.store ∧ t.drives.brake = s.drives.brake) ∧
    ((∀ d, (getDrive s d).mode = .off ∨ (getDrive s d).mode = .fault) →
      exec .leaveInit s =
        .next (postRegimeNotice ⟨.parked, .init, none, 0, msOf (now s)⟩
          { s with
            regime := { s.regime with regime := .parked }
            law := { s.law with timer := some (after (now s) 2000), ring := [] } }))

/-- α of a blend started now: in RELEASE it rises from 0 and reaches 1024 exactly at the expiry, in CAPTURE it falls from its
start and reaches 0 exactly at the expiry (R42, R43). The expiry of RELEASE gives FREE_LEAN with α 1024, of CAPTURE
UPRIGHT_HOLD with no dwell, each with a REGIME notice and nothing else changed (R48, R49). -/
def Obligations.BlendsRunTheirCourse : Prop :=
  (∀ (b : Blend) (s : State), s.regime.blend = some b → b.expiry = now s →
    (s.regime.regime = .release → b.kind = .release →
      exec .releaseBlendExpiry s =
        .next (postRegimeNotice ⟨.freeLean, .release, none, 1024, msOf (now s)⟩
          { s with regime := { s.regime with regime := .freeLean, blend := none } })) ∧
    (s.regime.regime = .capture → b.kind = .capture →
      exec .captureBlendExpiry s =
        .next (postRegimeNotice ⟨.uprightHold, .capture, none, 0, msOf (now s)⟩
          { s with regime := { s.regime with regime := .uprightHold, blend := none, dwellStart := none } }))) ∧
  (∀ (s : State) (a x : Nat), 100 ≤ (par s).tBlend → (par s).tBlend ≤ 2000 → a ≤ 1024 → x < 100000000 →
    alphaAt .release (some (releaseBlend s)) (after (now s) x) = min 1024 (1024 * x / (1000 * (par s).tBlend)) ∧
    (alphaAt .release (some (releaseBlend s)) (after (now s) x) = 1024 ↔
      elapsed (now s) (releaseBlend s).expiry ≤ x) ∧
    alphaAt .capture (some (captureBlend a s)) (after (now s) x) = a - 1024 * x / (1000 * (par s).tBlend) ∧
    (alphaAt .capture (some (captureBlend a s)) (after (now s) x) = 0 ↔
      elapsed (now s) (captureBlend a s).expiry ≤ x) ∧
    (∀ b t, alphaAt .freeLean b t = 1024) ∧
    (∀ r b t, r ≠ .release → r ≠ .freeLean → r ≠ .capture → alphaAt r b t = 0))

/-- A sample with known speed in UPRIGHT_HOLD: a release condition that fails ends the dwell; all conditions begin it, let it
go on, or after T_DWELL start RELEASE with its blend, notice and RELEASE_START (R40, R42, R44). -/
def Obligations.SamplesInUprightHold : Prop :=
  ∀ (sample : Sample) (s : State), s.regime.regime = .uprightHold → sample.unknown = false →
    let kept := { s with regime := { s.regime with latest := some sample } }
    let conditions := (par s).vFree ≤ sample.vLaw ∧ quality s ≠ .stale ∧ s.wheels.slip = false ∧ s.intake.yawSlip = false ∧
      s.channels.tilt.state = .homed ∧ s.channels.steer.state = .homed ∧ s.channels.bar.state = .homed ∧
      inhibitedAt s.regime.history (msOf (now s)) = false
    (¬ conditions →
      takeSample sample s = { kept with regime := { kept.regime with dwellStart := none } }) ∧
    (conditions → s.regime.dwellStart = none →
      takeSample sample s = { kept with regime := { kept.regime with dwellStart := some (now s) } }) ∧
    (∀ d, s.regime.dwellStart = some d → conditions → elapsed d (now s) < (par s).tDwell * 1000 →
      takeSample sample s = kept) ∧
    (∀ d, s.regime.dwellStart = some d → conditions → (par s).tDwell * 1000 ≤ elapsed d (now s) →
      takeSample sample s =
        deliver .regimeEvent 1 (postRegimeNotice ⟨.release, .uprightHold, none, 0, msOf (now s)⟩
          { kept with
            regime := { kept.regime with
              regime := .release
              dwellStart := none
              blend := some ⟨.release, now s, 0, (par s).tBlend, after (now s) (1000 * (par s).tBlend)⟩ } }))

/-- Release is inhibited by 3 TRANSIENT records of the last 10000 ms or any PERSISTENT record (R41, R62). -/
def Obligations.ReleaseInhibition : Prop :=
  ∀ (history : List AbortRecord) (t : Word32),
    inhibitedAt history t = true ↔
      (3 ≤ (history.filter (fun r => decide (r.cause ∈ [.speedLow, .inertialStale, .slip, .barRate, .channelSuspect, .parkRequest])
          && decide ((t - r.time).toNat < 10000))).length ∨
        ∃ r ∈ history, r.cause ∈ [.driveFault, .brakeFault, .channelFault, .speedUnknown])

/-- A sample with known speed in RELEASE: the first abort condition that holds gives the cause of a TRANSIENT abort, which
makes a record, starts a CAPTURE blend from α now with its notice and events, and from α 0 completes at once; with none the
sample is only kept (R42, R45, R46, R62, R63). -/
def Obligations.SamplesInRelease : Prop :=
  ∀ (sample : Sample) (s : State), s.regime.regime = .release → sample.unknown = false →
    let kept := { s with regime := { s.regime with latest := some sample } }
    let slow := sample.vLaw < (par s).vLock
    let stale := quality s = .stale
    let slip := s.wheels.slip = true ∨ s.intake.yawSlip = true
    let fast := (par s).barRateAbort < sample.barRate.natAbs
    let suspect :=
      s.channels.tilt.state = .suspect ∨ s.channels.steer.state = .suspect ∨ s.channels.bar.state = .suspect
    let a := alphaAt .release s.regime.blend (now s)
    let aborted (cause : AbortCause) : Prop :=
      let record : AbortRecord := ⟨cause, .release, .capture, a, sample.vLaw, msOf (now s)⟩
      let captured :=
        deliver .regimeEvent 6 (postRegimeNotice ⟨.capture, .release, some cause, a, msOf (now s)⟩
          { kept with
            regime := { kept.regime with
              regime := .capture
              history := pushRecord s.regime.history record
              blend := some ⟨.capture, now s, a, (par s).tBlend,
                after (now s) (ceilDiv (a * 1000 * (par s).tBlend) 1024)⟩ } })
      takeSample sample s =
        if a = 0 then
          postRegimeNotice ⟨.uprightHold, .capture, none, 0, msOf (now s)⟩
            { captured with
              regime := { captured.regime with regime := .uprightHold, blend := none, dwellStart := none } }
        else captured
    (slow → aborted .speedLow) ∧
    (¬ slow → stale → aborted .inertialStale) ∧
    (¬ slow → ¬ stale → slip → aborted .slip) ∧
    (¬ slow → ¬ stale → ¬ slip → fast → aborted .barRate) ∧
    (¬ slow → ¬ stale → ¬ slip → ¬ fast → suspect → aborted .channelSuspect) ∧
    (¬ slow → ¬ stale → ¬ slip → ¬ fast → ¬ suspect → takeSample sample s = kept)

/-- A sample elsewhere: in PARKED, HOMING, and with known speed in UNLOCKING, CAPTURE and LOCKING, it is only kept; in
FREE_LEAN below V_LOCK it starts CAPTURE from 1024; with unknown speed every riding regime goes to SAFE; in SAFE a spell of
unknown speed that begins leaves one record (R33, R39, R40, R45, R49, R51, R60). That no record comes of a first sample is
the model's choice of log 15, and that the REGIME notice of that capture comes before its REGIME_EVENT that of log 9. -/
def Obligations.SamplesElsewhere : Prop :=
  ∀ (sample : Sample) (s : State),
    let kept := { s with regime := { s.regime with latest := some sample } }
    (s.regime.regime = .parked ∨ s.regime.regime = .homing → takeSample sample s = kept) ∧
    (s.regime.regime = .unlocking ∨ s.regime.regime = .capture ∨ s.regime.regime = .locking → sample.unknown = false →
      takeSample sample s = kept) ∧
    (s.regime.regime = .freeLean → sample.unknown = false → (par s).vLock ≤ sample.vLaw →
      takeSample sample s = kept) ∧
    (s.regime.regime = .freeLean → sample.unknown = false → sample.vLaw < (par s).vLock →
      takeSample sample s =
        deliver .regimeEvent 4 (postRegimeNotice ⟨.capture, .freeLean, none, 1024, msOf (now s)⟩
          { kept with
            regime := { kept.regime with
              regime := .capture
              blend := some ⟨.capture, now s, 1024, (par s).tBlend,
                after (now s) (1000 * (par s).tBlend)⟩ } })) ∧
    (isRiding s.regime.regime = true → sample.unknown = true →
      takeSample sample s = enterSafe .speedUnknown sample.vLaw kept) ∧
    (s.regime.regime = .safe → sample.unknown = true → (∃ p, s.regime.latest = some p ∧ p.unknown = false) →
      takeSample sample s =
        { kept with
          regime := { kept.regime with
            history := pushRecord s.regime.history
              ⟨.speedUnknown, .safe, .safe, 0, sample.vLaw, msOf (now s)⟩ } }) ∧
    (s.regime.regime = .safe → (sample.unknown = false ∨ s.regime.latest = none ∨
        ∃ p, s.regime.latest = some p ∧ p.unknown = true) →
      takeSample sample s = kept)

/-- SAFE entry: the record is appended, the blend, the dwell and the homing phase end, the brake engages, a channel that was
seeking in HOMING is UNHOMED; the tilt drive holds the published λ_t or is OFF, the steer drive runs or is OFF; then the
REGIME notice and SAFE_ENTRY, with RELEASE_ABORT from RELEASE (R36, R57, R58, R59, R99). That the tilt drive's condition reads
the brake after the engage command is the model's reading of log 14. -/
def Obligations.SafeEntry : Prop :=
  ∀ (cause : AbortCause) (speed : Nat) (s : State), s.regime.regime ≠ .safe →
    let brake := (commandEngage s).drives.brake
    let holds := s.drives.tilt.mode ≠ .fault ∧ (s.channels.tilt.state = .homed ∨ s.channels.tilt.state = .suspect) ∧
      brake.state ≠ .engaged ∧ brake.state ≠ .brakeFault
    let steers := (s.channels.steer.state = .homed ∨ s.channels.steer.state = .suspect) ∧
      (s.channels.bar.state = .homed ∨ s.channels.bar.state = .suspect)
    ∃ u,
      enterSafe cause speed s =
        deliver .regimeEvent (if s.regime.regime = .release then 10 else 8)
          (postRegimeNotice ⟨.safe, s.regime.regime, some cause, 0, msOf (now s)⟩ u) ∧
      u.regime =
        { s.regime with
          regime := .safe
          blend := none
          dwellStart := none
          phase := none
          safeHolding := some (decide holds)
          history := pushRecord s.regime.history
            ⟨cause, s.regime.regime, .safe, alphaAt s.regime.regime s.regime.blend (now s), speed, msOf (now s)⟩ } ∧
      u.drives.brake = brake ∧
      (holds → u.drives.tilt.mode = .hold ∧ u.drives.tilt.holdTarget = some s.law.lambdaT) ∧
      (¬ holds → u.drives.tilt.mode = if s.drives.tilt.mode = .fault then .fault else .off) ∧
      (s.drives.steer.mode = .fault → u.drives.steer.mode = .fault) ∧
      (s.drives.steer.mode ≠ .fault → u.drives.steer.mode = if steers then .run else .off) ∧
      (∀ c, getChannel u c =
        if s.regime.regime = .homing ∧ c ≠ .bar ∧ (getChannel s c).state = .seeking then
          { getChannel s c with state := .unhomed, lastDiff := none, suspectStart := none }
        else getChannel s c) ∧
      u.pending = s.pending ∧ u.pins = s.pins ∧ u.timeBase = s.timeBase ∧ u.intake = s.intake ∧ u.wheels = s.wheels ∧
      u.law = s.law ∧ u.store = s.store ∧
      (s.drives.tilt.saturated = false → s.drives.steer.saturated = false →
        u.link = s.link ∧ u.counters = s.counters)

/-- A fault report, by the source and the regime: first a FAULT notice with the regime after, then no action, SAFE, the
channel's drive OFF in HOMING, or a record and a drive OFF in SAFE (R35, R54, R56, R60). That a BAR fault in HOMING commands
no drive is the model's reading of log 24. -/
def Obligations.FaultReports : Prop :=
  ∀ (source : FaultSource) (cause : FaultCause) (value : Int) (s : State),
    let noted (r : Regime) : State := postFaultNotice ⟨source, cause, value, r, msOf (now s)⟩ s
    let recorded (a : AbortCause) : State :=
      { noted .safe with
        regime := { s.regime with
          history := pushRecord s.regime.history ⟨a, .safe, .safe, 0, (selectedSpeed s).getD 0, msOf (now s)⟩ } }
    (∀ w, source = .wheel w → faultReport source cause value s = noted s.regime.regime) ∧
    (s.regime.regime = .init ∨ s.regime.regime = .parked →
      faultReport source cause value s = noted s.regime.regime) ∧
    (∀ c, source = .channel c → isRiding s.regime.regime = true →
      faultReport source cause value s = enterSafe .channelFault ((selectedSpeed s).getD 0) (noted .safe)) ∧
    (∀ d, source = .drive d → isRiding s.regime.regime = true ∨ s.regime.regime = .homing →
      faultReport source cause value s = enterSafe .driveFault ((selectedSpeed s).getD 0) (noted .safe)) ∧
    (source = .brake → isRiding s.regime.regime = true ∨ s.regime.regime = .homing →
      faultReport source cause value s = enterSafe .brakeFault ((selectedSpeed s).getD 0) (noted .safe)) ∧
    (s.regime.regime = .homing →
      (source = .channel .tilt →
        faultReport source cause value s = homingCheck (commandDrive .tilt .off (noted .homing))) ∧
      (source = .channel .steer →
        faultReport source cause value s = homingCheck (commandDrive .steer .off (noted .homing))) ∧
      (source = .channel .bar → faultReport source cause value s = noted .homing)) ∧
    (s.regime.regime = .safe →
      (source = .channel .tilt →
        faultReport source cause value s = safeTiltOff (recorded .channelFault)) ∧
      (source = .channel .steer ∨ source = .channel .bar →
        faultReport source cause value s = commandDrive .steer .off (recorded .channelFault)) ∧
      (source = .drive .tilt →
        faultReport source cause value s = safeTiltOff (recorded .driveFault)) ∧
      (source = .drive .steer →
        faultReport source cause value s = commandDrive .steer .off (recorded .driveFault)) ∧
      (source = .brake →
        faultReport source cause value s = safeTiltOff (recorded .brakeFault)))

/-! ### The law engine -/

/-- A law computation reads its inputs as they stand, publishes the targets, flags and ring of its stages, reports clamps to
the counters and hands the law sample to the regime controller (R6 to R10, R25 to R28, R77). The ring drops the oldest of 6
samples and takes the newest (R25); derate stands while a DERATE counter has reached its threshold (R182); an angle is the
count over the CPR, present in HOMED and SUSPECT (R87); the quality is STALE without a deadline, else that of the latest
roll (R135). That the counters are told before the sample is taken, and in this order, is the model's choice of log 9. -/
def Obligations.LawExpiry : Prop :=
  (∀ (ring : List Int) (b : Int),
    (ring.length < 6 → pushBar ring b = ring ++ [b]) ∧
    (∀ oldest rest, ring = oldest :: rest → ring.length = 6 → pushBar ring b = rest ++ [b])) ∧
  (∀ u : CounterUnit,
    derate u = true ↔ ∃ i : Fin 8, u.counters[i].config.action = .derate ∧ u.counters[i].reached = true) ∧
  (∀ (s : State) (c : ChannelId),
    let ch := getChannel s c
    (ch.state = .homed ∨ ch.state = .suspect → angle s c = some (roundDiv (ch.count.toInt * 36000) (cpr (par s) c))) ∧
    (ch.state ≠ .homed → ch.state ≠ .suspect → angle s c = none)) ∧
  (∀ s : State,
    (s.intake.deadline = none → quality s = .stale) ∧
    (s.intake.deadline.isSome = true → s.intake.latestRoll = some .aged → quality s = .fresh) ∧
    (s.intake.deadline.isSome = true → s.intake.latestRoll = some .unaged → quality s = .unaged)) ∧
  ∀ s : State, s.law.timer = some (now s) → s.regime.regime ≠ .init →
    let bar : BarInput := ⟨(angle s .bar).getD 0, (angle s .bar).isSome⟩
    let capNow : Nat :=
      if s.wheels.slip = true ∨ s.intake.yawSlip = true ∨ quality s = .stale then 512
      else if quality s = .unaged ∨ derate s.counters = true then 768 else 1024
    let inputs : LawInputs :=
      ⟨(selectedSpeed s).getD 0, (selectedSpeed s).isNone, bar, angle s .tilt, angle s .steer, s.intake.cEst, capNow,
       alphaAt s.regime.regime s.regime.blend (now s), s.regime.regime, s.drives.steer.mode⟩
    let r := computeLaw inputs s.store.working s.law.phiT s.law.deltaT
    let ring := pushBar s.law.ring bar.b
    let computed :=
      { s with law := ⟨some (after (now s) 2000), r.phiT, r.lambdaT, r.deltaT, ring, r.flags, r.steerFlags, some bar, capNow⟩ }
    let clamped :=
      if r.flags = ⟨false, false, false⟩ then computed
      else deliver .lawClamp (maskOf [r.flags.accel, r.flags.limit, r.flags.rate]) computed
    let limited := if r.flags.limit = s.law.flags.limit then clamped else deliverLeanLimited r.flags.limit clamped
    let reported :=
      if r.steerFlags = ⟨false, false⟩ then limited
      else deliver .steerClamp (maskOf [r.steerFlags.range, r.steerFlags.rate]) limited
    exec .lawExpiry s =
      .next (takeSample ⟨inputs.vLaw, inputs.unknown, (bar.b - ring.headD bar.b) * 100⟩ reported)

/-- Between two points of an ordered map each field is interpolated with the quotient truncated, and from the last point on
it stands as it is (R12); the balance lean meets the table at its entries, is odd, never falls and never exceeds 4254 (R15,
R16). -/
def Obligations.LawTables : Prop :=
  (∀ (m : Vector MapPoint 9) (v : Nat) (i : Fin 8), mapOrdered m = true →
    let p := m[i.val]
    let q := m[i.val + 1]
    p.speed ≤ v → v < q.speed →
      mapLookup m v =
        ⟨p.kc + Int.tdiv (((q.kc : Int) - p.kc) * ((v : Int) - p.speed)) ((q.speed : Int) - p.speed),
         p.kcs + Int.tdiv (((q.kcs : Int) - p.kcs) * ((v : Int) - p.speed)) ((q.speed : Int) - p.speed),
         p.lmax + Int.tdiv (((q.lmax : Int) - p.lmax) * ((v : Int) - p.speed)) ((q.speed : Int) - p.speed)⟩) ∧
  (∀ (m : Vector MapPoint 9) (v : Nat), mapOrdered m = true → m[8].speed ≤ v →
    mapLookup m v = ⟨m[8].kc, m[8].kcs, m[8].lmax⟩) ∧
  [0, 750, 1500, 2250, 3000, 3750, 4500, 5250, 6000, 6750, 7500, 8250, 9000].map balanceLean =
    [0, 437, 870, 1292, 1701, 2093, 2465, 2816, 3146, 3454, 3741, 4007, 4254] ∧
  (∀ a : Int, balanceLean (-a) = -balanceLean a) ∧
  (∀ a b : Int, -9000 ≤ a → a ≤ b → b ≤ 9000 → balanceLean a ≤ balanceLean b) ∧
  (∀ a : Int, a.natAbs ≤ 9000 → (balanceLean a).natAbs ≤ 4254)

/-- What a law computation makes of its inputs. The path curvature within ±5000 (R13), the lateral acceleration with ACCEL
(R14), the effective lean limit (R17), the demanded lean with LIMIT (R18), and the direct, kinematic and counter-steer terms
blended into the demanded steer with RANGE (R67 to R70) are the stages' formulas; L4 interpolates the balance table (R16). λ_t is
φ_t − c_est within TILT_LIMIT; φ_t goes to the demanded lean or by exactly its step toward it in the four upright and leaning
regimes, toward 0 at α 0, is frozen in UNLOCKING, LOCKING, SAFE and HOMING and follows the linkage in PARKED; δ_t goes to the
demanded steer or by exactly its step toward it, toward the direct steer at α 0 and in SAFE, stays within STEER_LIMIT, or follows
the wheels (R19 to R23, R71 to R74). -/
def Obligations.LawTargets : Prop :=
  (∀ k r : Nat, k < 12 → r < 750 →
    let t (n : Nat) : Nat := [0, 437, 870, 1292, 1701, 2093, 2465, 2816, 3146, 3454, 3741, 4007, 4254].getD n 0
    balanceLean ((750 * k + r : Nat) : Int) = ((t k + ((t (k + 1) - t k) * r + 375) / 750 : Nat) : Int)) ∧
  ∀ (i : LawInputs) (c : Calibration) (phiT deltaT : Int),
    let r := computeLaw i c phiT deltaT
    let p := c.params
    let m := mapLookup c.map i.vLaw
    let steps := i.regime = .uprightHold ∨ i.regime = .release ∨ i.regime = .freeLean ∨ i.regime = .capture
    let steers := isRiding i.regime = true ∨ (i.regime = .safe ∧ i.steerMode = .run)
    let leanStep := p.leanRate * 2 / 1000
    let steerStep := p.steerRate * 2 / 1000
    let kappa := max (-5000) (min 5000 (roundDiv (i.bar.b * m.kc) 1000))
    let aRaw := roundDiv ((i.vLaw : Int) ^ 2 * kappa) 100000
    let phiB := balanceLean (max (-(p.aMax : Int)) (min (p.aMax : Int) aRaw))
    let lEff := max 0 (min ((m.lmax * i.cap).fdiv 1024) ((p.tiltLimit : Int) - (i.cEst.natAbs : Int)))
    let phiD := roundDiv (i.alpha * max (-lEff) (min lEff phiB)) 1024
    let deltaDir := roundDiv (i.bar.b * p.steerRatioLow) 256
    let direct := clampSym p.steerLimit deltaDir
    let lead := match i.lambdaM with
      | none => 0
      | some a => roundDiv (m.kcs * (r.phiT - (a + i.cEst))) 256
    let deltaLean := roundDiv (p.wheelbase * kappa * 5730) 10000000 - lead
    let demand :=
      if i.regime = .safe then deltaDir
      else roundDiv (i.alpha * deltaLean + (1024 - (i.alpha : Int)) * deltaDir) 1024
    let deltaD := max (-(p.steerLimit : Int)) (min (p.steerLimit : Int) demand)
    r.kappa = kappa ∧ r.kcs = m.kcs ∧
    (r.flags.accel = true ↔ aRaw < -(p.aMax : Int) ∨ (p.aMax : Int) < aRaw) ∧
    (r.flags.limit = true ↔ lEff < (phiB.natAbs : Int)) ∧
    (r.steerFlags.range = true ↔ demand < -(p.steerLimit : Int) ∨ (p.steerLimit : Int) < demand) ∧
    r.lambdaT = clampSym p.tiltLimit (r.phiT - i.cEst) ∧ r.lambdaT.natAbs ≤ p.tiltLimit ∧
    (steps →
      ((phiD - phiT).natAbs ≤ leanStep → r.phiT = phiD ∧ r.flags.rate = false) ∧
      (phiT + leanStep < phiD → r.phiT = phiT + leanStep ∧ r.flags.rate = true) ∧
      (phiD < phiT - leanStep → r.phiT = phiT - leanStep ∧ r.flags.rate = true)) ∧
    (steps → (r.phiT - phiT).natAbs ≤ leanStep) ∧
    (steps → i.alpha = 0 →
      (phiT.natAbs ≤ leanStep → r.phiT = 0 ∧ r.flags.rate = false) ∧
      (leanStep < phiT.natAbs → r.phiT.natAbs + leanStep = phiT.natAbs ∧ r.flags.rate = true)) ∧
    (steps → i.alpha ≤ 1024 → phiT.natAbs ≤ 4254 → r.phiT.natAbs ≤ 4254) ∧
    (i.regime = .unlocking ∨ i.regime = .locking ∨ i.regime = .safe ∨ i.regime = .homing →
      r.phiT = phiT ∧ r.flags.rate = false) ∧
    (i.regime = .parked →
      r.phiT = (i.lambdaM.map (fun m => m + i.cEst)).getD 0 ∧ r.flags.rate = false) ∧
    (steers →
      ((deltaD - deltaT).natAbs ≤ steerStep → r.deltaT = deltaD ∧ r.steerFlags.rate = false) ∧
      (deltaT + steerStep < deltaD → r.deltaT = deltaT + steerStep ∧ r.steerFlags.rate = true) ∧
      (deltaD < deltaT - steerStep → r.deltaT = deltaT - steerStep ∧ r.steerFlags.rate = true)) ∧
    (steers → (r.deltaT - deltaT).natAbs ≤ steerStep) ∧
    (steers → deltaT.natAbs ≤ p.steerLimit → r.deltaT.natAbs ≤ p.steerLimit) ∧
    (steers → i.alpha = 0 ∨ i.regime = .safe →
      ((direct - deltaT).natAbs ≤ steerStep → r.deltaT = direct ∧ r.steerFlags.rate = false) ∧
      (steerStep < (direct - deltaT).natAbs →
        (direct - r.deltaT).natAbs + steerStep = (direct - deltaT).natAbs ∧ r.steerFlags.rate = true)) ∧
    (¬ steers →
      r.deltaT = (i.deltaM.map (clampSym p.steerLimit)).getD 0 ∧ r.steerFlags.rate = false)

/-! ### Homing and the brake's completions -/

/-- BRAKE_RELEASED in UNLOCKING enters UPRIGHT_HOLD without a dwell (R39). In the RELEASING phase of HOMING each of TILT and
STEER is commanded by its channel's state: CREEP while it seeks with a drive that can creep, a homing timeout with its FAULT
notice when its drive is in FAULT, HOLD at 0 once it is HOMED or SUSPECT, OFF in FAULT; the phase becomes CREEP, or with
neither seeking ENGAGING with the brake engaging (R35, R53 to R55, R97, R146 to R148, R156, R157, R163). BRAKE_ENGAGED ends
LOCKING and the ENGAGING phase of HOMING in PARKED with both drives commanded OFF (R51, R55), and in SAFE ends the hold of
the tilt drive (R58). Nothing else changes but what the counters and the THRESHOLD slot take from a saturation that ends;
TILT is taken before STEER, and the counters before the REGIME notice, by the model's choice of logs 9 and 12. That a channel
UNHOMED as the creep phase begins gets no command is the model's choice of log 23. -/
def Obligations.BrakeCompletions : Prop :=
  (∀ (tside sside : Bool) (s : State), s.drives.brake.state = .released →
    (s.regime.regime = .unlocking →
      exec (.brakeReleased tside sside) s =
        .next (postRegimeNotice ⟨.uprightHold, .unlocking, none, 0, msOf (now s)⟩
          { s with
            pins := { s.pins with tside := tside, sside := sside }
            regime := { s.regime with regime := .uprightHold, dwellStart := none } })) ∧
    (s.regime.regime = .homing → s.regime.phase = some .releasing →
      let seeks (d : DriveId) : Bool := (getChannel s (driveChannel d)).state == .seeking
      let faults (d : DriveId) : Bool := seeks d && (getDrive s d).mode == .fault
      let creeps (d : DriveId) : Bool := seeks d && (getDrive s d).mode != .fault
      let side (d : DriveId) : Bool := if d = .tilt then tside else sside
      let duty : Int := (min (par s).creepDuty (par s).uMax : Nat)
      let channel (d : DriveId) : Channel :=
        if faults d then { getChannel s (driveChannel d) with state := .fault, suspectStart := none }
        else getChannel s (driveChannel d)
      let held (d : DriveId) : Drive :=
        { (if (getDrive s d).mode = .hold then getDrive s d else leftRecord (getDrive s d)) with
          mode := .hold
          holdTarget := some 0
          ePrev :=
            some (0 - angleOfCount (getChannel s (driveChannel d)).count (cpr (par s) (driveChannel d)))
          shadow := 0
          satStart := none }
      let crept (d : DriveId) : Drive :=
        if (getDrive s d).mode = .creep then getDrive s d
        else { leftRecord (getDrive s d) with
          mode := .creep
          creepTimer := some (after (now s) 3000000)
          shadow := if side d then -duty else duty }
      let drive (d : DriveId) : Drive :=
        if (getDrive s d).mode = .fault then getDrive s d
        else match (getChannel s (driveChannel d)).state with
          | .unhomed => getDrive s d
          | .seeking => crept d
          | .homed => held d
          | .suspect => held d
          | .fault => offRecord (getDrive s d)
      let told (d : DriveId) (u : State) : State :=
        if faults d then postFaultNotice ⟨.channel (driveChannel d), .homingTimeout, 0, .homing, msOf (now s)⟩ u
        else match (getChannel s (driveChannel d)).state with
          | .unhomed => u
          | .seeking => leavingTold d u
          | .homed => if (getDrive s d).mode = .hold then u else leavingTold d u
          | .suspect => if (getDrive s d).mode = .hold then u else leavingTold d u
          | .fault => leavingTold d u
      let creeping := creeps .tilt || creeps .steer
      exec (.brakeReleased tside sside) s =
        .next { told .steer (told .tilt s) with
          pins := { s.pins with tside := tside, sside := sside }
          regime := { s.regime with phase := some (if creeping then .creep else .engaging) }
          channels := ⟨channel .tilt, channel .steer, s.channels.bar⟩
          drives := { s.drives with
            tilt := drive .tilt
            steer := drive .steer
            brake :=
              if creeping then s.drives.brake
              else if s.pins.brks then ⟨.engaging, false, some (after (now s) 150000)⟩
              else ⟨.engaged, false, none⟩ } })) ∧
  (∀ s : State, s.drives.brake.state = .engaged →
    (s.regime.regime = .locking ∨ (s.regime.regime = .homing ∧ s.regime.phase = some .engaging) →
      exec .brakeEngaged s =
        .next (postRegimeNotice ⟨.parked, s.regime.regime, none, 0, msOf (now s)⟩
          { leavingTold .steer (leavingTold .tilt s) with
            regime :=
              { s.regime with
                regime := .parked, phase := if s.regime.regime = .homing then none else s.regime.phase }
            drives := { s.drives with
              tilt := offRecord s.drives.tilt, steer := offRecord s.drives.steer } })) ∧
    (s.regime.regime = .safe → s.regime.safeHolding = some true →
      exec .brakeEngaged s =
        .next { leavingTold .tilt s with
          regime := { s.regime with safeHolding := some false }
          drives := { s.drives with tilt := offRecord s.drives.tilt } }))

/-- A creep timeout outside HOMING stops the timer and changes nothing else. In HOMING it faults a channel that still seeks,
with HOMING_TIMEOUT and its FAULT notice, leaves any other channel as it is, and commands the drive OFF; in phase CREEP with
the other shaft not seeking the brake engages and the phase becomes ENGAGING (R35, R54, R55, R97, R146, R148, R157, R163).
Nothing else changes but what the counters and the THRESHOLD slot take from a saturation that ends, which is told after the
FAULT notice (R35). -/
def Obligations.CreepTimeout : Prop :=
  ∀ (d : DriveId) (s : State), (getDrive s d).creepTimer = some (now s) →
    let ch := getChannel s (driveChannel d)
    let other : ChannelId := if d = .tilt then .steer else .tilt
    let stopped : Drive := { getDrive s d with creepTimer := none }
    let told : State :=
      leavingTold d
        (if ch.state = .seeking then
          postFaultNotice ⟨.channel (driveChannel d), .homingTimeout, 0, .homing, msOf (now s)⟩ s
        else s)
    let engages := s.regime.phase = some .creep ∧ (getChannel s other).state ≠ .seeking
    (s.regime.regime ≠ .homing → exec (.creepTimerExpiry d) s = .next (setDrive d stopped s)) ∧
    (s.regime.regime = .homing →
      exec (.creepTimerExpiry d) s =
        .next { told with
          channels :=
            (setChannel (driveChannel d)
              (if ch.state = .seeking then { ch with state := .fault, suspectStart := none } else ch) s).channels
          regime := if engages then { s.regime with phase := some .engaging } else s.regime
          drives := { (setDrive d (offRecord stopped) s).drives with
            brake := if engages then (commandEngage s).drives.brake else s.drives.brake } })

/-! ### Angle channels -/

/-- A line event is decoded along the cycle (0,0), (1,0), (1,1), (0,1): no change does nothing, a step of one place counts up
or down, takes the direction test, the index event when the lines are (0,0) with Z high, and the range check, and a change of
both lines is illegal: tally, SUSPECT from HOMED, QUAD_ERROR (R81 to R85, R92). -/
def Obligations.LineEvents : Prop :=
  ∀ (c : ChannelId) (z : Bool) (s : State),
    let ch := getChannel s c
    let up : LinePair := ⟨!ch.lines.b, ch.lines.a⟩
    let down : LinePair := ⟨ch.lines.b, !ch.lines.a⟩
    let turned (d : Direction) (count : BitVec 32) (lines : LinePair) : State :=
      let moved := setChannel c { ch with count := count, lines := lines, direction := d } s
      if ch.direction = d then moved else deliver .reversal (channelKind c) moved
    exec (.lineEvent c ch.lines z) s = .next s ∧
    exec (.lineEvent c up z) s =
      .next (rangeCheck c
        (if up = ⟨false, false⟩ ∧ z = true then indexEvent c (turned .positive (ch.count + 1) up)
         else turned .positive (ch.count + 1) up)) ∧
    exec (.lineEvent c down z) s =
      .next (rangeCheck c
        (if down = ⟨false, false⟩ ∧ z = true then indexEvent c (turned .negative (ch.count - 1) down)
         else turned .negative (ch.count - 1) down)) ∧
    exec (.lineEvent c ⟨!ch.lines.a, !ch.lines.b⟩ z) s =
      .next (deliver .quadError (channelKind c)
        (setChannel c
          { ch with
            lines := ⟨!ch.lines.a, !ch.lines.b⟩
            tally := min 65535 (ch.tally + 1)
            state := if ch.state = .homed then .suspect else ch.state
            suspectStart := if ch.state = .homed then some (now s) else ch.suspectStart } s))

/-- Index events, range checks and the suspect timer, by the channel state: homing at count 0, confirmation within 2 counts,
and FAULT with INDEX_MISMATCH, OUT_OF_RANGE or SUSPECT_TIMEOUT, which the regime controller is told (R87, R89, R91, R93 to
R96). -/
def Obligations.IndexAndRange : Prop :=
  ∀ (c : ChannelId) (s : State),
    let ch := getChannel s c
    let faulted (r : Channel) : State := setChannel c { r with state := .fault, suspectStart := none } s
    (ch.state = .fault ∨ (ch.state = .unhomed ∧ c ≠ .bar) → indexEvent c s = s) ∧
    (ch.state = .unhomed → c = .bar →
      indexEvent c s = setChannel c { ch with state := .homed, count := 0, lastDiff := none } s) ∧
    (ch.state = .seeking →
      let homed := setChannel c { ch with state := .homed, count := 0, lastDiff := none } s
      (s.regime.regime ≠ .homing ∨ s.regime.phase ≠ some .creep → indexEvent c s = homed) ∧
      (s.regime.regime = .homing → s.regime.phase = some .creep → c = .tilt →
        indexEvent c s = homingCheck (commandDrive .tilt (.hold 0) homed)) ∧
      (s.regime.regime = .homing → s.regime.phase = some .creep → c = .steer →
        indexEvent c s = homingCheck (commandDrive .steer (.hold 0) homed))) ∧
    (ch.state = .homed ∨ ch.state = .suspect → ch.count.toInt.natAbs ≤ 2 →
      indexEvent c s =
        setChannel c
          { ch with state := .homed, count := 0, lastDiff := some ch.count.toInt, suspectStart := none } s) ∧
    (ch.state = .homed ∨ ch.state = .suspect → 2 < ch.count.toInt.natAbs →
      indexEvent c s =
        faultReport (.channel c) .indexMismatch ch.count.toInt
          (faulted { ch with lastDiff := some ch.count.toInt })) ∧
    (ch.state ≠ .homed → ch.state ≠ .suspect → rangeCheck c s = s) ∧
    (ch.state = .homed ∨ ch.state = .suspect →
      let a := roundDiv (ch.count.toInt * 36000) (cpr (par s) c)
      let limit : Nat := if c = .tilt then (par s).tiltLimit else if c = .steer then (par s).steerLimit else 5500
      (a.natAbs ≤ limit + 500 → rangeCheck c s = s) ∧
      (limit + 500 < a.natAbs → rangeCheck c s = faultReport (.channel c) .outOfRange a (faulted ch))) ∧
    (∀ t, ch.suspectStart = some t → ch.state = .suspect → now s = after t 10000000 →
      exec (.suspectTimerExpiry c) s =
        .next (faultReport (.channel c) .suspectTimeout ch.tally (faulted ch)))

/-! ### Wheels -/

/-- A rising edge, by the wheel state: ignored in INVALID, a glitch below 100 µs, else captured with its period and speed,
then the INVALID tests of the other wheels and, with no wheel INVALID, the disagreement evaluation (R103, R105 to R108,
R110, R111, R115, R116, R118). That the two other wheels are tested in the order FL, FR, RR is the model's choice of log
12. -/
def Obligations.WheelEdges : Prop :=
  ∀ (w : WheelId) (s : State),
    let r := getWheel s w
    let y := (otherWheels w).1
    let z := (otherWheels w).2
    let period := elapsed r.lastEdge (now s)
    let circ : Nat := if w = .rr then (par s).circRear else (par s).circFront
    let followed (u : State) : State :=
      let tested := invalidTest z (invalidTest y u)
      if tested.wheels.fl.state ≠ .invalid ∧ tested.wheels.fr.state ≠ .invalid ∧ tested.wheels.rr.state ≠ .invalid then
        evaluate tested
      else tested
    (r.state = .invalid → exec (.wheelEdge w) s = .next s) ∧
    (r.state = .rolling → period < 100 →
      exec (.wheelEdge w) s = .next (deliver .wheelGlitch (wheelKind w) s)) ∧
    (r.state = .rolling → 100 ≤ period →
      exec (.wheelEdge w) s =
        .next (followed (setWheel w
          ⟨.rolling, now s, some period, min 4000 (circ * 100000 / ((par s).wheelPpr * period))⟩ s))) ∧
    (r.state = .stopped → exec (.wheelEdge w) s = .next (followed (setWheel w ⟨.rolling, now s, none, 0⟩ s))) ∧
    (¬ (r.state ≠ .invalid ∧ 2000000 ≤ period ∧
        ((∃ v, reading s y = some v ∧ 300 < v) ∨ (getWheel s y).state = .invalid) ∧
        ((∃ v, reading s z = some v ∧ 300 < v) ∨ (getWheel s z).state = .invalid) ∧
        ((∃ v, reading s y = some v ∧ 300 < v) ∨ ∃ v, reading s z = some v ∧ 300 < v)) →
      invalidTest w s = s) ∧
    (r.state ≠ .invalid → 2000000 ≤ period →
      (∃ v, reading s y = some v ∧ 300 < v) ∨ (getWheel s y).state = .invalid →
      (∃ v, reading s z = some v ∧ 300 < v) ∨ (getWheel s z).state = .invalid →
      (∃ v, reading s y = some v ∧ 300 < v) ∨ (∃ v, reading s z = some v ∧ 300 < v) →
      invalidTest w s =
        faultReport (.wheel w) .silent (period / 1000 : Nat)
          (setRun none (setWheel w { r with state := .invalid, lastPeriod := none, lastSpeed := 0 } s)))

/-- What a wheel reads: 0 when STOPPED or without a period, its last speed within the period, at most the speed of the time
since the edge after it, nothing when INVALID (R103, R104). The selected speed is at most 2000 and the median of three
readings or the lower of two, and it is unknown below two (R113, R114). The disagreement evaluation: DISAGREE when the rear
differs from the mean of the fronts by more than the allowance; the run keeps its start while the verdict stays; slip is set
after 20 ms of DISAGREE and cleared after 200 ms of AGREE, with the condition delivered at each change (R115, R116,
R118). -/
def Obligations.DisagreementEvaluation : Prop :=
  (∀ (w : WheelId) (s : State),
    let r := getWheel s w
    let circ : Nat := if w = .rr then (par s).circRear else (par s).circFront
    let since := elapsed r.lastEdge (now s)
    (r.state = .stopped → reading s w = some 0) ∧
    (r.state = .rolling → r.lastPeriod = none → reading s w = some 0) ∧
    (∀ period, r.state = .rolling → r.lastPeriod = some period →
      (since ≤ period → reading s w = some r.lastSpeed) ∧
      (period < since →
        reading s w = some (min r.lastSpeed (min 4000 (circ * 100000 / ((par s).wheelPpr * since)))))) ∧
    (r.state = .invalid → reading s w = none)) ∧
  (∀ s : State,
    (∀ fl fr rr, reading s .fl = some fl → reading s .fr = some fr → reading s .rr = some rr →
      ∃ m ∈ [fl, fr, rr], selectedSpeed s = some (min m 2000) ∧
        2 ≤ ([fl, fr, rr].filter (fun x => decide (x ≤ m))).length ∧
        2 ≤ ([fl, fr, rr].filter (fun x => decide (m ≤ x))).length) ∧
    (∀ w x y, reading s w = none → reading s (otherWheels w).1 = some x → reading s (otherWheels w).2 = some y →
      selectedSpeed s = some (min (min x y) 2000)) ∧
    (∀ w, reading s (otherWheels w).1 = none → reading s (otherWheels w).2 = none → selectedSpeed s = none)) ∧
  ∀ (fl fr rr v : Nat) (s : State), reading s .fl = some fl → reading s .fr = some fr → reading s .rr = some rr →
    selectedSpeed s = some v →
    let kind : Verdict :=
      if max (par s).slipAbs ((par s).slipRel * v / 100) < ((rr : Int) - ((fl + fr) / 2 : Nat)).natAbs then .disagree
      else .agree
    let keeps := ∃ run, s.wheels.run = some run ∧ run.kind = kind
    (¬ keeps → evaluate s = { s with wheels := { s.wheels with run := some ⟨kind, now s⟩ } }) ∧
    (∀ start, s.wheels.run = some ⟨kind, start⟩ →
      (kind = .disagree → s.wheels.slip = false → 20000 ≤ elapsed start (now s) →
        evaluate s = deliverSlipWheel true { s with wheels := { s.wheels with slip := true } }) ∧
      (kind = .agree → s.wheels.slip = true → 200000 ≤ elapsed start (now s) →
        evaluate s = deliverSlipWheel false { s with wheels := { s.wheels with slip := false } }) ∧
      (kind = .disagree → s.wheels.slip = true ∨ elapsed start (now s) < 20000 → evaluate s = s) ∧
      (kind = .agree → s.wheels.slip = false ∨ elapsed start (now s) < 200000 → evaluate s = s))

/-- A stop timer's expiry stops its wheel, and with all three wheels stopped clears slip and the run (R109, R117). -/
def Obligations.StopTimers : Prop :=
  ∀ (w : WheelId) (s : State), (getWheel s w).state = .rolling → now s = after (getWheel s w).lastEdge 250000 →
    let stopped := setWheel w { getWheel s w with state := .stopped, lastPeriod := none, lastSpeed := 0 } s
    ((∃ x, x ≠ w ∧ (getWheel s x).state ≠ .stopped) → exec (.stopTimerExpiry w) s = .next stopped) ∧
    ((∀ x, x ≠ w → (getWheel s x).state = .stopped) → s.wheels.slip = false →
      exec (.stopTimerExpiry w) s = .next { stopped with wheels := { stopped.wheels with run := none } }) ∧
    ((∀ x, x ≠ w → (getWheel s x).state = .stopped) → s.wheels.slip = true →
      exec (.stopTimerExpiry w) s =
        .next (setRun none
          (deliverSlipWheel false { stopped with wheels := { stopped.wheels with slip := false } })))

/-! ### Time base and motion reports -/

/-- A strobe, by the sync state and the fine position: it starts a grid, is good, or is early (R123 to R127). The window
timer's expiry at fine position P + W is a missed strobe: UNSYNCED from SYNCING and after 50 in HOLDOVER, else a boundary
with fine position W, and HOLDOVER after 3 in LOCKED (R125 to R129). Each change of sync state posts a TIMEBASE notice
(R128). A strobe beyond P + W, before the missed strobe is taken, counts as good by the model's choice of log 17. That the
TIMEBASE notice is posted before the STROBE event is counted is the choice of log 9. -/
def Obligations.Strobes : Prop :=
  (∀ s : State,
    let b := s.timeBase
    let noted (t : TimeBase) : State :=
      postTimebaseNotice ⟨t.sync, b.sync, t.frameCount, t.aligned, msOf (now s)⟩ { s with timeBase := t }
    let marked : TimeBase := { b with gridStart := some (now s), frameCount := b.frameCount + 1 }
    (b.sync = .unsynced →
      exec .strobe s =
        .next (noted { b with sync := .syncing, gridStart := some (now s), goodRun := 1, missedRun := 0 })) ∧
    (∀ g, b.gridStart = some g → b.sync ≠ .unsynced →
      (elapsed g (now s) + (par s).strobeWindow < (par s).framePeriod →
        (b.sync = .syncing →
          exec .strobe s =
            .next (deliver .strobe 2 { s with timeBase := { b with gridStart := some (now s), goodRun := 1 } })) ∧
        (b.sync = .locked → exec .strobe s = .next (deliver .strobe 2 s)) ∧
        (b.sync = .holdover →
          exec .strobe s = .next (deliver .strobe 2 { s with timeBase := { b with goodRun := 0 } }))) ∧
      ((par s).framePeriod ≤ elapsed g (now s) + (par s).strobeWindow →
        (b.sync = .locked →
          exec .strobe s = .next (deliver .strobe 1 { s with timeBase := { marked with missedRun := 0 } })) ∧
        (b.sync = .syncing → b.goodRun ≠ 3 →
          exec .strobe s =
            .next (deliver .strobe 1 { s with timeBase := { marked with goodRun := b.goodRun + 1 } })) ∧
        (b.sync = .holdover → b.goodRun ≠ 3 →
          exec .strobe s =
            .next (deliver .strobe 1
              { s with timeBase := { marked with goodRun := b.goodRun + 1, missedRun := 0 } })) ∧
        (b.sync = .syncing ∨ b.sync = .holdover → b.goodRun = 3 →
          exec .strobe s =
            .next (deliver .strobe 1 (noted { marked with goodRun := 4, missedRun := 0, sync := .locked })))))) ∧
  (∀ (g : Time) (s : State), s.timeBase.gridStart = some g →
    elapsed g (now s) = (par s).framePeriod + (par s).strobeWindow →
    let b := s.timeBase
    let noted (t : TimeBase) : State :=
      postTimebaseNotice ⟨t.sync, b.sync, t.frameCount, t.aligned, msOf (now s)⟩ { s with timeBase := t }
    let lost := noted { b with sync := .unsynced, gridStart := none, aligned := false, goodRun := 0, missedRun := 0 }
    let marked : TimeBase :=
      { b with
        gridStart := some (before (now s) (par s).strobeWindow)
        frameCount := b.frameCount + 1
        missedRun := b.missedRun + 1 }
    (b.sync = .syncing → exec .missedStrobe s = .next (deliver .strobe 4 lost)) ∧
    (b.sync = .locked → b.missedRun ≠ 2 →
      exec .missedStrobe s = .next (deliver .strobe 4 { s with timeBase := marked })) ∧
    (b.sync = .locked → b.missedRun = 2 →
      exec .missedStrobe s =
        .next (deliver .strobe 4 (noted { marked with missedRun := 3, goodRun := 0, sync := .holdover }))) ∧
    (b.sync = .holdover → b.missedRun < 49 →
      exec .missedStrobe s = .next (deliver .strobe 4 { s with timeBase := { marked with goodRun := 0 } })) ∧
    (b.sync = .holdover → 49 ≤ b.missedRun → exec .missedStrobe s = .next (deliver .strobe 4 lost)))

/-- A motion report is malformed, aged, unaged, late or future by its length, its flags and its frame; a refused report
changes nothing but the counters; an accepted one takes its roll, then its yaw, saturated (R132 to R136, R139). That its
MOTION_REPORT event is counted before its REPORT_AGE event, and both before its steps, is the model's choice of log 9. -/
def Obligations.MotionReports : Prop :=
  ∀ (payload : List Byte) (s : State), TakesAtOnce s →
    let flags := byteAt payload 2
    let yawIn := flags.getLsbD 0
    let rollIn := flags.getLsbD 1
    let formed := 3 ≤ payload.length ∧ (yawIn = true ∨ rollIn = true) ∧
      payload.length = 3 + 2 * (yawIn.toNat + rollIn.toNat)
    let age := (s.timeBase.frameCount - halfAt payload 0).toNat
    let aged := s.timeBase.aligned = true ∧ (s.timeBase.sync = .locked ∨ s.timeBase.sync = .holdover)
    let yaw : Int := clampSym 30000 (halfAt payload 3).toInt
    let roll : Int := clampSym 6000 (halfAt payload (if yawIn then 5 else 3)).toInt
    let taken (kind : RollKind) (u : State) : State :=
      let rolled := if rollIn then camberStep roll (freshnessStep kind u) else u
      if yawIn then yawCheck yaw rolled else rolled
    (¬ formed → exec (.motion payload) s = .next (deliver .motionReport 16 s)) ∧
    (formed → aged → age ≤ 2 →
      exec (.motion payload) s = .next (taken .aged (deliverAge age (deliver .motionReport 1 s)))) ∧
    (formed → aged → 3 ≤ age → age ≤ 32767 → exec (.motion payload) s = .next (deliver .motionReport 4 s)) ∧
    (formed → aged → 32768 ≤ age → exec (.motion payload) s = .next (deliver .motionReport 8 s)) ∧
    (formed → ¬ aged → exec (.motion payload) s = .next (taken .unaged (deliver .motionReport 2 s)))

/-- The parts of an accepted report: the freshness deadline 20 ms on with the quality it gives, the camber estimate an eighth
of the way toward roll − λ_m within CAMBER_LIMIT, and the yaw check with its runs and yaw slip (R135, R136, R138, R139, R141
to R143). -/
def Obligations.InertialSteps : Prop :=
  ∀ s : State,
    (∀ kind, let i := { s.intake with latestRoll := some kind, deadline := some (after (now s) 20000) }
      let q : Quality := if kind = .aged then .fresh else .unaged
      freshnessStep kind s =
        if q = quality s then { s with intake := i } else deliverDegraded q { s with intake := i }) ∧
    (∀ roll, angle s .tilt = none → camberStep roll s = s) ∧
    (∀ roll a, angle s .tilt = some a →
      camberStep roll s =
        { s with
          intake := { s.intake with
            cEst := clampSym (par s).camberLimit (s.intake.cEst + roundDiv (roll - a - s.intake.cEst) 8) } }) ∧
    (∀ yaw, quality s ≠ .fresh ∨ selectedSpeed s = none ∨ (selectedSpeed s).getD 0 < (par s).vFree ∨
        s.channels.steer.state ≠ .homed →
      yawCheck yaw s = s) ∧
    (∀ yaw v, quality s = .fresh → selectedSpeed s = some v → (par s).vFree ≤ v → s.channels.steer.state = .homed →
      let kinematic := roundDiv (v * angleOfCount s.channels.steer.count (par s).cprSteer * 10) (par s).wheelbase
      let missed := { s with intake := { s.intake with mismatchRun := min 3 (s.intake.mismatchRun + 1), matchRun := 0 } }
      let matched := { s with intake := { s.intake with matchRun := min 3 (s.intake.matchRun + 1), mismatchRun := 0 } }
      ((par s).yawTol < (yaw - kinematic).natAbs →
        (s.intake.mismatchRun < 2 ∨ s.intake.yawSlip = true → yawCheck yaw s = missed) ∧
        (2 ≤ s.intake.mismatchRun → s.intake.yawSlip = false →
          yawCheck yaw s = deliverSlipYaw true { missed with intake := { missed.intake with yawSlip := true } })) ∧
      ((yaw - kinematic).natAbs ≤ (par s).yawTol →
        (s.intake.matchRun < 2 ∨ s.intake.yawSlip = false → yawCheck yaw s = matched) ∧
        (2 ≤ s.intake.matchRun → s.intake.yawSlip = true →
          yawCheck yaw s = deliverSlipYaw false { matched with intake := { matched.intake with yawSlip := false } })))

/-- The freshness deadline's expiry stops it, which makes the quality STALE, and clears yaw slip and both runs (R137). -/
def Obligations.FreshnessDeadline : Prop :=
  ∀ s : State, s.intake.deadline = some (now s) →
    let stale := deliverDegraded .stale
      { s with intake := { s.intake with deadline := none, mismatchRun := 0, matchRun := 0 } }
    (s.intake.yawSlip = false → exec .freshnessDeadlineExpiry s = .next stale) ∧
    (s.intake.yawSlip = true →
      exec .freshnessDeadlineExpiry s =
        .next (deliverSlipYaw false { stale with intake := { stale.intake with yawSlip := false } }))

/-! ### Drives and brake -/

/-- A PWM boundary closes each drive's period, takes its shadow as the active duty and sets DIR; a line asserted as the
output would rise, or while it is high, is a cut with its DRIVE_CUT, and the 400th cut run in a row is FAULT with OVERLOAD
(R149, R158 to R160). The high time in whole µs is the model's choice of log 11, TILT before STEER that of log 12, the
boundary of local time 0 that of log 13. -/
def Obligations.PwmBoundaryAndCuts : Prop :=
  (∀ (toc soc : Bool) (s : State), (now s).toNat % 50 = 0 → s.drives.periodStart ≠ now s →
    exec (.pwmBoundary toc soc) s =
      .next (driveBoundary .steer soc (driveBoundary .tilt toc
        { s with
          pins := { s.pins with toc := toc, soc := soc }
          drives := { s.drives with periodStart := now s } }))) ∧
  ∀ (d : DriveId) (s : State),
    let r := getDrive s d
    let begun : Drive :=
      { r with
        cutRun := if r.cutFlag then r.cutRun else 0
        active := r.shadow
        cutFlag := false
        dir := decide (0 < r.shadow) }
    let cut (x : Drive) : State :=
      deliver .driveCut (driveKind d) (setDrive d { x with cutFlag := true, cutRun := x.cutRun + 1 } s)
    let failed (x : Drive) : State :=
      faultReport (.drive d) .overload x.active
        (endSaturation d (setDrive d
          { x with
            mode := .fault
            holdTarget := none
            ePrev := none
            shadow := 0
            active := 0
            cutRun := 0
            cutFlag := false
            satStart := none
            creepTimer := none
            dir := false } (cut x)))
    (∀ line, line = false ∨ r.shadow = 0 → driveBoundary d line s = setDrive d begun s) ∧
    (r.shadow ≠ 0 → begun.cutRun < 399 → driveBoundary d true s = cut begun) ∧
    (r.shadow ≠ 0 → 399 ≤ begun.cutRun → driveBoundary d true s = failed begun) ∧
    (r.cutFlag = false → elapsed s.drives.periodStart (now s) * 20 < r.active.natAbs ∨ 1000 ≤ r.active.natAbs →
      (r.cutRun < 399 → exec (.overcurrentCut d) s = .next (cut r)) ∧
      (399 ≤ r.cutRun → exec (.overcurrentCut d) s = .next (failed r))) ∧
    (r.cutFlag = true ∨ (r.active.natAbs ≤ elapsed s.drives.periodStart (now s) * 20 ∧ r.active.natAbs < 1000) →
      exec (.overcurrentCut d) s = .next s)

/-- A loop expiry acts on each drive by its mode: nothing in OFF and FAULT, the creep duty in CREEP, and in RUN and HOLD the
absent-angle step, or the duty of R152 with the saturation test and the tracking test, which ends in FAULT with TRACKING after
250 ms (R151 to R156). That TILT acts before STEER is the model's choice of log 12, and that the expiry of local time 0 belongs to
the reset that of log 13. -/
def Obligations.LoopExpiry : Prop :=
  (∀ (tside sside : Bool) (s : State), (now s).toNat % 500 = 0 → s.drives.latestLoop ≠ now s →
    exec (.loopExpiry tside sside) s =
      .next (driveLoop .steer (driveLoop .tilt
        { s with
          pins := { s.pins with tside := tside, sside := sside }
          drives := { s.drives with latestLoop := now s } }))) ∧
  ∀ (d : DriveId) (s : State),
    let r := getDrive s d
    (r.mode = .off ∨ r.mode = .fault → driveLoop d s = s) ∧
    (r.mode = .creep →
      let duty : Int := (min (par s).creepDuty (par s).uMax : Nat)
      driveLoop d s =
        setDrive d
          { r with shadow := if (if d = .tilt then s.pins.tside else s.pins.sside) = true then -duty else duty } s) ∧
    (r.mode = .run ∨ r.mode = .hold → angle s (driveChannel d) = none →
      let still := { r with shadow := 0, ePrev := none, satStart := none }
      driveLoop d s =
        if r.saturated then deliverSaturated d false (setDrive d { still with saturated := false } s)
        else setDrive d still s) ∧
    (∀ a target, angle s (driveChannel d) = some a →
      (r.mode = .run ∧ target = (if d = .tilt then s.law.lambdaT else s.law.deltaT)) ∨
        (r.mode = .hold ∧ r.holdTarget = some target) →
      let e := target - a
      let kp : Nat := if d = .tilt then (par s).kpTilt else (par s).kpSteer
      let kd : Nat := if d = .tilt then (par s).kdTilt else (par s).kdSteer
      let u := clampSym (par s).uMax (roundDiv (kp * e + kd * (e - r.ePrev.getD e)) 256)
      let full := decide (u.natAbs = (par s).uMax)
      let computed := { r with shadow := u, ePrev := some e, saturated := full }
      let tested :=
        if r.saturated = full then setDrive d computed s else deliverSaturated d full (setDrive d computed s)
      (full = false ∨ e.natAbs ≤ 300 →
        driveLoop d s = setDrive d { computed with satStart := none } tested) ∧
      (full = true → 300 < e.natAbs →
        (r.satStart = none → driveLoop d s = setDrive d { computed with satStart := some (now s) } tested) ∧
        (∀ t, r.satStart = some t → elapsed t (now s) < 250000 → driveLoop d s = tested) ∧
        (∀ t, r.satStart = some t → 250000 ≤ elapsed t (now s) →
          driveLoop d s = faultDrive d .tracking e tested)))

/-- The brake contact and the brake timer, by the brake state: RELEASED and ENGAGED are reached on the contact's change, a
change that contradicts the state is SENSE_LOST or SENSE_RAISED, and a timer that expires is RELEASE_TIMEOUT or
ENGAGE_TIMEOUT; BRAKE_FAULT lowers the output and is reported (R161 to R168). -/
def Obligations.BrakeContact : Prop :=
  ∀ s : State,
    let brake (b : Brake) (level : Bool) : State :=
      { s with pins := { s.pins with brks := level }, drives := { s.drives with brake := b } }
    let b := s.drives.brake
    let failed : Brake := ⟨.brakeFault, false, none⟩
    (b.state = .releasing → exec .brksRise s = .next (brake { b with state := .released, timer := none } true)) ∧
    (b.state = .engaged → exec .brksRise s = .next (faultReport .brake .senseRaised 0 (brake failed true))) ∧
    (b.state = .released ∨ b.state = .engaging ∨ b.state = .brakeFault → exec .brksRise s = .next (brake b true)) ∧
    (b.state = .engaging → exec .brksFall s = .next (brake { b with state := .engaged, timer := none } false)) ∧
    (b.state = .released → exec .brksFall s = .next (faultReport .brake .senseLost 0 (brake failed false))) ∧
    (b.state = .engaged ∨ b.state = .releasing ∨ b.state = .brakeFault → exec .brksFall s = .next (brake b false)) ∧
    (b.timer = some (now s) → b.state = .releasing →
      exec .brakeTimerExpiry s = .next (faultReport .brake .releaseTimeout 0 (brake failed s.pins.brks))) ∧
    (b.timer = some (now s) → b.state = .engaging →
      exec .brakeTimerExpiry s = .next (faultReport .brake .engageTimeout 0 (brake failed s.pins.brks))) ∧
    (b.state = .engaged ∨ b.state = .engaging →
      commandRelease s =
        brake (if s.pins.brks then ⟨.released, true, none⟩ else ⟨.releasing, true, some (after (now s) 150000)⟩)
          s.pins.brks) ∧
    (b.state = .releasing ∨ b.state = .released ∨ b.state = .brakeFault → commandRelease s = s) ∧
    (b.state = .releasing ∨ b.state = .released →
      commandEngage s =
        brake (if s.pins.brks then ⟨.engaging, false, some (after (now s) 150000)⟩ else ⟨.engaged, false, none⟩)
          s.pins.brks) ∧
    (b.state = .engaged ∨ b.state = .engaging ∨ b.state = .brakeFault → commandEngage s = s)

/-! ### Counters -/

/-- COUNTER_SET is checked in order and stores its configuration with the record cleared, a DURATION counter timing at once
when its condition stands (R171, R183); COUNTER_CLEAR clears the counters its mask names (R186). -/
def Obligations.CounterRequests : Prop :=
  ∀ s : State, TakesAtOnce s →
    (∀ (n event mask mode : Byte) (threshold : Word32) (action : Byte),
      let k := counterActionOfCode action
      let refused := exec (.counterSet n event mask mode threshold action) s = .next (refuse .counterSet .badValue s)
      (8 ≤ n.toNat → refused) ∧
      (k = none → refused) ∧
      (15 < event.toNat → refused) ∧
      (event ≠ 0 → counterModeOfCode mode = none → refused) ∧
      (∀ e m, eventOfNumber event.toNat = some e → counterModeOfCode mode = some m → modeValid m e = false → refused) ∧
      (∀ e, eventOfNumber event.toNat = some e → 0 < subKinds e → (∀ i, i < subKinds e → mask.getLsbD i = false) →
        refused) ∧
      (∀ h : n.toNat < 8, k ≠ none → event = 0 →
        exec (.counterSet n event mask mode threshold action) s =
          .next (accept (.counterSet n ⟨none, 0, .count, 0, .none⟩)
            { s with
              counters := { s.counters with
                counters := s.counters.counters.set n.toNat ⟨⟨none, 0, .count, 0, .none⟩, 0, false, 0, none⟩ } })) ∧
      (∀ (h : n.toNat < 8) e m a, eventOfNumber event.toNat = some e → counterModeOfCode mode = some m → k = some a →
        modeValid m e = true → (subKinds e = 0 ∨ ∃ i, i < subKinds e ∧ mask.getLsbD i = true) →
        ∃ kept : Byte, (∀ i, kept.getLsbD i = (mask.getLsbD i && decide (i < subKinds e))) ∧
          exec (.counterSet n event mask mode threshold action) s =
            .next (accept (.counterSet n ⟨some e, kept, m, threshold.toNat, a⟩)
              { s with
                counters := { s.counters with
                  counters := s.counters.counters.set n.toNat
                    ⟨⟨some e, kept, m, threshold.toNat, a⟩, 0, false, 0,
                     if m = .duration ∧
                        selectedCondition ⟨some e, kept, m, threshold.toNat, a⟩ s.counters.conditions = true then
                       some (now s)
                     else none⟩ } }))) ∧
    (∀ mask : Byte, ∃ u, exec (.counterClear mask) s = .next (accept (.counterClear mask) { s with counters := u }) ∧
      u.conditions = s.counters.conditions ∧
      ∀ i : Fin 8, u.counters[i] =
        if mask.getLsbD i then
          { s.counters.counters[i] with
            value := 0
            reached := false
            remainder := 0
            mark :=
              if s.counters.counters[i].config.mode = .duration ∧ s.counters.counters[i].mark ≠ none then some (now s)
              else s.counters.counters[i].mark }
        else s.counters.counters[i])

/-- What one event makes of each counter: an occurrence or an age is added where it is configured, saturating, with the
threshold test; a condition's change starts, stops or counts; the millisecond timer counts one. Nothing else changes but the
THRESHOLD notices of the NOTIFY counters that reach their thresholds: each is posted in its turn, and while the transmitter is
sending they are merged into one with the set of all those counters (R172 to R181, R199). That the counters take an event from 0
to 7 is the model's choice of log 12. -/
def Obligations.Counting : Prop :=
  ∀ s : State,
    let grown (n : Nat) (c : Counter) : Counter :=
      let value := min 4294967295 (c.value + n)
      { c with value := value, reached := c.reached || decide (c.config.threshold ≠ 0 ∧ c.config.threshold ≤ value) }
    let told (i : Fin 8) (t : State) : Prop :=
      t.counters.counters[i].config.action = .notify ∧ s.counters.counters[i].reached = false ∧
        t.counters.counters[i].reached = true
    let notify (l : Link) (i : Fin 8) : Link :=
      selectToSend { l with
        thresholdSlot := some (mergeThreshold l.thresholdSlot ⟨1#8 <<< i.val, msOf (now s)⟩) }
    let framed (t : State) : Prop :=
      t = { s with counters := t.counters, link := t.link } ∧ ((∀ i, ¬ told i t) → t.link = s.link) ∧
        (∀ i, told i t → (∀ j, told j t → j = i) → t.link = selectToSend { s.link with
          thresholdSlot := some (mergeThreshold s.link.thresholdSlot ⟨1#8 <<< i.val, msOf (now s)⟩) }) ∧
        (∀ tolds : List (Fin 8), tolds.Pairwise (· < ·) → (∀ i, i ∈ tolds ↔ told i t) →
          t.link = tolds.foldl notify s.link) ∧
        (s.link.transmitter.isSome = true → (∃ i, told i t) →
          ∃ n : Byte, t.link = { s.link with thresholdSlot := some ⟨n, msOf (now s)⟩ } ∧
            ∀ i : Fin 8, n.getLsbD i.val = true ↔
              (told i t ∨ ∃ p, s.link.thresholdSlot = some p ∧ p.counters.getLsbD i.val = true)) ∧
        t.link.receiver = s.link.receiver ∧ t.link.gapTimer = s.link.gapTimer ∧
        t.link.receiveQueue = s.link.receiveQueue ∧ t.link.handover = s.link.handover ∧
        t.link.statusTimer = s.link.statusTimer
    (∀ e kinds, framed (deliver e kinds s) ∧
      (deliver e kinds s).counters.conditions = s.counters.conditions ∧
      ∀ i : Fin 8,
        let c := s.counters.counters[i]
        (deliver e kinds s).counters.counters[i] =
          if c.config.event = some e ∧ c.config.mode = .count ∧ c.config.mask &&& kinds ≠ 0 then grown 1 c else c) ∧
    (∀ age, framed (deliverAge age s) ∧ (deliverAge age s).counters.conditions = s.counters.conditions ∧
      ∀ i : Fin 8,
        let c := s.counters.counters[i]
        (deliverAge age s).counters.counters[i] =
          if c.config.event = some .reportAge ∧ c.config.mode = .accumulate then grown age c else c) ∧
    (∀ new, framed (deliverConditions new s) ∧ (deliverConditions new s).counters.conditions = new ∧
      ∀ i : Fin 8,
        let c := s.counters.counters[i]
        let was := selectedCondition c.config s.counters.conditions
        let is := selectedCondition c.config new
        let t := (deliverConditions new s).counters.counters[i]
        (was = is → t = c) ∧
        (was = false → is = true → c.config.mode = .duration → t = { c with mark := some (now s) }) ∧
        (was = false → is = true → c.config.mode = .edge → t = grown 1 c) ∧
        (was = true → is = false → c.config.mode = .edge → t = c) ∧
        (∀ m, was = true → is = false → c.config.mode = .duration → c.mark = some m →
          (c.remainder + elapsed m (now s) < 1000 →
            t = { c with remainder := c.remainder + elapsed m (now s), mark := none }) ∧
          (1000 ≤ c.remainder + elapsed m (now s) →
            t = grown 1 { c with remainder := c.remainder + elapsed m (now s) - 1000, mark := none }))) ∧
    (∀ i m, s.counters.counters[i].mark = some m → now s = after m (1000 - s.counters.counters[i].remainder) →
      ∃ t, exec (.millisecondTimerExpiry i) s = .next t ∧ framed t ∧ t.counters.conditions = s.counters.conditions ∧
        t.counters.counters[i] = grown 1 { s.counters.counters[i] with remainder := 0, mark := some (now s) } ∧
        ∀ j, j ≠ i → t.counters.counters[j] = s.counters.counters[j])

/-! ### The calibration store -/

/-- PARAM_SET is checked for INIT, the id and the PARKED-only rule; accepted, the value held is the given one clamped, the
cross-constraints are applied, and a change is passed to the block that owns its effect (R24, R76, R100, R131, R140, R150,
R200, R210 to R213). MAP_SET is checked for INIT, the point and the order, and holds the clamped point (R215). The order of
the effects of one write is the model's choice of log 12. -/
def Obligations.CalibrationWrites : Prop :=
  ∀ s : State, TakesAtOnce s →
    (∀ id v, s.regime.regime = .init → exec (.paramSet id v) s = .next (refuse .paramSet .wrongRegime s)) ∧
    (∀ id v, s.regime.regime ≠ .init → id.toNat = 0 ∨ 32 < id.toNat →
      exec (.paramSet id v) s = .next (refuse .paramSet .badValue s)) ∧
    (∀ (p : Param) (id : Byte) (v : Half), id.toNat = (paramRow p).id → s.regime.regime ≠ .init →
      (s.regime.regime ≠ .parked → (paramRow p).parkedOnly = true →
        exec (.paramSet id v) s = .next (refuse .paramSet .wrongRegime s)) ∧
      (s.regime.regime = .parked ∨ (paramRow p).parkedOnly = false →
        let clamped := if p = .reportPeriod ∧ v = 0 then 0 else max (paramRow p).lo (min (paramRow p).hi v.toNat)
        let w := setParam (par s) p clamped
        let c := { w with vFree := max w.vFree (w.vLock + 50), vPark := min w.vPark (w.vLock - 20) }
        let held := getParam c p
        let written := { s with store := { s.store with working := { s.store.working with params := c } } }
        let same := held = getParam (par s) p
        let accepts (t : State) : Prop :=
          exec (.paramSet id v) s = .next (accept (.paramSet id held (decide (held ≠ v.toNat))) t)
        let unhomed (ch : ChannelId) : State :=
          setChannel ch { getChannel s ch with state := .unhomed, lastDiff := none, suspectStart := none } written
        (same → p ≠ .reportPeriod → p ≠ .framePeriod → p ≠ .strobeWindow → p ≠ .cprTilt → p ≠ .cprSteer →
          p ≠ .cprBar → accepts written) ∧
        (p ∉ [.steerLimit, .tiltLimit, .camberLimit, .uMax, .reportPeriod, .framePeriod, .strobeWindow, .cprTilt,
            .cprSteer, .cprBar] → accepts written) ∧
        (p = .tiltLimit → ¬ same →
          accepts (rangeCheck .tilt
            { written with law := { s.law with lambdaT := clampSym held s.law.lambdaT } })) ∧
        (p = .steerLimit → ¬ same →
          accepts (rangeCheck .steer
            { written with law := { s.law with deltaT := clampSym held s.law.deltaT } })) ∧
        (p = .camberLimit → ¬ same →
          accepts { written with intake := { s.intake with cEst := clampSym held s.intake.cEst } }) ∧
        (p = .uMax → ¬ same →
          accepts { written with
            drives := { s.drives with
              tilt := { s.drives.tilt with
                shadow := clampSym held s.drives.tilt.shadow, active := clampSym held s.drives.tilt.active }
              steer := { s.drives.steer with
                shadow := clampSym held s.drives.steer.shadow, active := clampSym held s.drives.steer.active } } }) ∧
        (p = .reportPeriod →
          accepts { written with
            link := { s.link with
              statusTimer := if held = 0 then none else some (after (now s) (1000 * held)) } }) ∧
        (p = .framePeriod ∨ p = .strobeWindow → s.timeBase.sync = .unsynced → accepts written) ∧
        (p = .framePeriod ∨ p = .strobeWindow → s.timeBase.sync ≠ .unsynced →
          accepts (postTimebaseNotice ⟨.unsynced, s.timeBase.sync, s.timeBase.frameCount, false, msOf (now s)⟩
            { written with
              timeBase := { s.timeBase with
                sync := .unsynced, gridStart := none, aligned := false, goodRun := 0, missedRun := 0 } })) ∧
        (p = .cprTilt → accepts (unhomed .tilt)) ∧ (p = .cprSteer → accepts (unhomed .steer)) ∧
        (p = .cprBar → accepts (unhomed .bar)))) ∧
    (∀ point speed kc kcs lmax, s.regime.regime = .init →
      exec (.mapSet point speed kc kcs lmax) s = .next (refuse .mapSet .wrongRegime s)) ∧
    (∀ point speed kc kcs lmax, s.regime.regime ≠ .init → 9 ≤ point.toNat →
      exec (.mapSet point speed kc kcs lmax) s = .next (refuse .mapSet .badValue s)) ∧
    (∀ (point : Byte) (speed kc kcs lmax : Half) (h : point.toNat < 9), s.regime.regime ≠ .init →
      let held : MapPoint := ⟨min speed.toNat 2000, min kc.toNat 5000, min kcs.toNat 2000, min lmax.toNat 4254⟩
      let m := s.store.working.map.set point.toNat held
      let rises := m[0].speed = 0 ∧ ∀ i : Fin 8, m[i.val].speed < m[i.val + 1].speed
      (rises →
        exec (.mapSet point speed kc kcs lmax) s =
          .next (accept
            (.mapSet point held
              (maskOf [decide (2000 < speed.toNat), decide (5000 < kc.toNat), decide (2000 < kcs.toNat),
                decide (4254 < lmax.toNat)]))
            { s with store := { s.store with working := { s.store.working with map := m } } })) ∧
      (¬ rises → exec (.mapSet point speed kc kcs lmax) s = .next (refuse .mapSet .order s)))

/-- SAVE and LOAD are checked for PARKED and for a running operation; accepted, the operation starts its first ready poll, a
SAVE with a snapshot of the working calibration (R217, R221, R222). -/
def Obligations.SaveAndLoad : Prop :=
  ∀ s : State, TakesAtOnce s →
    (s.regime.regime ≠ .parked →
      exec .save s = .next (refuse .save .wrongRegime s) ∧ exec .load s = .next (refuse .load .wrongRegime s)) ∧
    (s.regime.regime = .parked → s.store.state = .loading ∨ s.store.state = .saving →
      exec .save s = .next (refuse .save .busy s) ∧ exec .load s = .next (refuse .load .busy s)) ∧
    (s.regime.regime = .parked → s.store.state = .idle ∨ s.store.state = .failed →
      exec .save s =
        .next (accept .save
          { s with
            store :=
              ⟨s.store.working, .saving, some .save, some s.store.working, some (after (now s) 1000000),
               some .savePollFirst⟩ }) ∧
      exec .load s =
        .next (accept .load
          { s with
            store :=
              ⟨s.store.working, .loading, some .load, s.store.snapshot, some (after (now s) 1000000),
               some .loadPoll⟩ }))

/-- The ends of flash transactions, by the step of the operation: a ready poll that finds the chip ready goes on, a poll limit
ends in TIMEOUT, a header is judged by R218, a body by its CRC and its map, a save goes from write enable to erase, program
and verify; every end posts a STORE notice (R217 to R219, R223). An image that is EMPTY leaves the defaults in force, a VALID one
its own calibration, and a load that replaces the working calibration passes each changed value on: limits and duties clamped, the
status timer restarted or stopped, the time base UNSYNCED, channels UNHOMED, range checks made (R24, R76, R98, R100, R131, R140,
R150, R200, R213, R219). The flash stands outside the machine and the bytes read are operands by the model's choice of log 18;
the order of these effects where two of them post is that of log 12. -/
def Obligations.FlashTransactions : Prop :=
  ∀ s : State,
    let at_ (step : StoreStep) (limit : Option Time) : State :=
      { s with store := { s.store with step := some step, pollLimit := limit } }
    let poll := some (after (now s) 1000000)
    let ended (result : StoreResult) (state : StoreState) (t : State) : State :=
      postStoreNotice ⟨s.store.operation.getD .startUp, result, state, msOf (now s)⟩
        { t with
          store := { t.store with
            state := state, operation := none, snapshot := none, pollLimit := none, step := none } }
    (∀ b : Byte, b.getLsbD 0 = true → exec (.readStatusDone b) s = .next s) ∧
    (∀ b : Byte, b.getLsbD 0 = false →
      (s.store.step = some .loadPoll → exec (.readStatusDone b) s = .next (at_ .loadHeader none)) ∧
      (s.store.step = some .savePollFirst → exec (.readStatusDone b) s = .next (at_ .saveEnableErase none)) ∧
      (s.store.step = some .savePollSecond → exec (.readStatusDone b) s = .next (at_ .saveEnableProgram none)) ∧
      (s.store.step = some .savePollThird → exec (.readStatusDone b) s = .next (at_ .saveVerify none))) ∧
    (s.store.pollLimit = some (now s) → exec .pollLimitExpiry s = .next (ended .timeout .failed s)) ∧
    (∀ c : Calibration,
      let old := par s
      let new := c.params
      let unhomed (changed : Bool) (r : Channel) : Channel :=
        if changed then { r with state := .unhomed, lastDiff := none, suspectStart := none } else r
      let within (r : Drive) : Drive :=
        { r with shadow := clampSym new.uMax r.shadow, active := clampSym new.uMax r.active }
      let replaced : State :=
        { s with
          store := { s.store with working := c }
          law := { s.law with
            lambdaT := if old.tiltLimit = new.tiltLimit then s.law.lambdaT else clampSym new.tiltLimit s.law.lambdaT
            deltaT := if old.steerLimit = new.steerLimit then s.law.deltaT else clampSym new.steerLimit s.law.deltaT }
          intake := { s.intake with
            cEst := if old.camberLimit = new.camberLimit then s.intake.cEst else clampSym new.camberLimit s.intake.cEst }
          drives :=
            if old.uMax = new.uMax then s.drives
            else { s.drives with tilt := within s.drives.tilt, steer := within s.drives.steer }
          channels :=
            ⟨unhomed (old.cprTilt != new.cprTilt) s.channels.tilt,
             unhomed (old.cprSteer != new.cprSteer) s.channels.steer,
             unhomed (old.cprBar != new.cprBar) s.channels.bar⟩
          link := { s.link with
            statusTimer :=
              if old.reportPeriod = new.reportPeriod then s.link.statusTimer
              else if new.reportPeriod = 0 then none else some (after (now s) (1000 * new.reportPeriod)) } }
      let synced : State :=
        if (old.framePeriod = new.framePeriod ∧ old.strobeWindow = new.strobeWindow) ∨ s.timeBase.sync = .unsynced then
          replaced
        else
          postTimebaseNotice ⟨.unsynced, s.timeBase.sync, s.timeBase.frameCount, false, msOf (now s)⟩
            { replaced with
              timeBase := { s.timeBase with
                sync := .unsynced, gridStart := none, aligned := false, goodRun := 0, missedRun := 0 } }
      let tilted := if old.tiltLimit = new.tiltLimit then synced else rangeCheck .tilt synced
      replaceWorking c none s = (if old.steerLimit = new.steerLimit then tilted else rangeCheck .steer tilted) ∧
      (replaceWorking c none s).store = { s.store with working := c }) ∧
    (∀ h : Vector Byte 8, s.store.step = some .loadHeader →
      (h[0] = 0xFF → h[1] = 0xFF →
        exec (.headerReadDone h) s =
          .next (ended .empty .idle (replaceWorking ⟨defaultParams, defaultMap⟩ none s)) ∧
        ∃ t, exec (.headerReadDone h) s = .next t ∧
          t.store = ⟨⟨defaultParams, defaultMap⟩, .idle, none, none, none, none⟩) ∧
      (¬ (h[0] = 0xFF ∧ h[1] = 0xFF) →
        ¬ (h[0] = 0x5A ∧ h[1] = 0x3C ∧ h[2] = 1 ∧ h[3].toNat ≤ 64 ∧
          (h[5] ++ h[4]).toNat = 72 + 3 * h[3].toNat) →
        exec (.headerReadDone h) s = .next (ended .bad .failed s)) ∧
      (h[0] = 0x5A → h[1] = 0x3C → h[2] = 1 → h[3].toNat ≤ 64 → (h[5] ++ h[4]).toNat = 72 + 3 * h[3].toNat →
        exec (.headerReadDone h) s = .next (at_ (.loadBody h[3].toNat (h[7] ++ h[6])) none))) ∧
    (∀ n crc body, s.store.step = some (.loadBody n crc) → body.length = 72 + 3 * n →
      (crc16 body ≠ crc ∨ mapOrdered (bodyMap body) = false →
        exec (.bodyReadDone body) s = .next (ended .bad .failed s)) ∧
      (crc16 body = crc → mapOrdered (bodyMap body) = true →
        exec (.bodyReadDone body) s =
          .next (ended .valid .idle (replaceWorking (bodyCalibration body) none s)) ∧
        ∃ t, exec (.bodyReadDone body) s = .next t ∧ t.store = ⟨bodyCalibration body, .idle, none, none, none, none⟩)) ∧
    (s.store.step = some .saveEnableErase → exec .writeEnableDone s = .next (at_ .saveErase none)) ∧
    (s.store.step = some .saveEnableProgram → exec .writeEnableDone s = .next (at_ .saveProgram none)) ∧
    (s.store.step = some .saveErase → exec .sectorEraseDone s = .next (at_ .savePollSecond poll)) ∧
    (s.store.step = some .saveProgram → exec .pageProgramDone s = .next (at_ .savePollThird poll)) ∧
    (∀ (bytes : Vector Byte 176) (c : Calibration), s.store.step = some .saveVerify → s.store.snapshot = some c →
      (bytes.toList = imageBytes c → exec (.verifyReadDone bytes) s = .next (ended .done .idle s)) ∧
      (bytes.toList ≠ imageBytes c →
        exec (.verifyReadDone bytes) s = .next (ended .verifyFailed .failed s)))
end

