-- ==== Sys2Proof/Laws/State.lean ====
section
/-! SUPPORT. What each plain update of the state leaves and what it writes: one simp lemma per update, one conjunct per
component, so that no later proof unfolds a record update. -/

namespace Sys2Proof.Machine

variable (s : State)

@[simp] theorem setChannel_fields (c : ChannelId) (r : Channel) :
    (setChannel c r s).pending = s.pending ∧ (setChannel c r s).pins = s.pins ∧ (setChannel c r s).link = s.link ∧
    (setChannel c r s).timeBase = s.timeBase ∧ (setChannel c r s).intake = s.intake ∧
    (setChannel c r s).wheels = s.wheels ∧ (setChannel c r s).law = s.law ∧ (setChannel c r s).regime = s.regime ∧
    (setChannel c r s).drives = s.drives ∧ (setChannel c r s).counters = s.counters ∧
    (setChannel c r s).store = s.store := by
  cases c <;> exact ⟨rfl, rfl, rfl, rfl, rfl, rfl, rfl, rfl, rfl, rfl, rfl⟩

@[simp] theorem setDrive_fields (d : DriveId) (r : Drive) :
    (setDrive d r s).pending = s.pending ∧ (setDrive d r s).pins = s.pins ∧ (setDrive d r s).link = s.link ∧
    (setDrive d r s).timeBase = s.timeBase ∧ (setDrive d r s).intake = s.intake ∧
    (setDrive d r s).channels = s.channels ∧ (setDrive d r s).wheels = s.wheels ∧ (setDrive d r s).law = s.law ∧
    (setDrive d r s).regime = s.regime ∧ (setDrive d r s).counters = s.counters ∧ (setDrive d r s).store = s.store := by
  cases d <;> exact ⟨rfl, rfl, rfl, rfl, rfl, rfl, rfl, rfl, rfl, rfl, rfl⟩

@[simp] theorem setWheel_fields (w : WheelId) (r : Wheel) :
    (setWheel w r s).pending = s.pending ∧ (setWheel w r s).pins = s.pins ∧ (setWheel w r s).link = s.link ∧
    (setWheel w r s).timeBase = s.timeBase ∧ (setWheel w r s).intake = s.intake ∧
    (setWheel w r s).channels = s.channels ∧ (setWheel w r s).law = s.law ∧ (setWheel w r s).regime = s.regime ∧
    (setWheel w r s).drives = s.drives ∧ (setWheel w r s).counters = s.counters ∧ (setWheel w r s).store = s.store := by
  cases w <;> exact ⟨rfl, rfl, rfl, rfl, rfl, rfl, rfl, rfl, rfl, rfl, rfl⟩

@[simp] theorem setBrake_fields (b : Brake) :
    (setBrake b s).pending = s.pending ∧ (setBrake b s).pins = s.pins ∧ (setBrake b s).link = s.link ∧
    (setBrake b s).timeBase = s.timeBase ∧ (setBrake b s).intake = s.intake ∧ (setBrake b s).channels = s.channels ∧
    (setBrake b s).wheels = s.wheels ∧ (setBrake b s).law = s.law ∧ (setBrake b s).regime = s.regime ∧
    (setBrake b s).drives = { s.drives with brake := b } ∧ (setBrake b s).counters = s.counters ∧
    (setBrake b s).store = s.store := ⟨rfl, rfl, rfl, rfl, rfl, rfl, rfl, rfl, rfl, rfl, rfl, rfl⟩

@[simp] theorem setBlend_fields (b : Option Blend) :
    (setBlend b s).pending = s.pending ∧ (setBlend b s).pins = s.pins ∧ (setBlend b s).link = s.link ∧
    (setBlend b s).timeBase = s.timeBase ∧ (setBlend b s).intake = s.intake ∧ (setBlend b s).channels = s.channels ∧
    (setBlend b s).wheels = s.wheels ∧ (setBlend b s).law = s.law ∧
    (setBlend b s).regime = { s.regime with blend := b } ∧ (setBlend b s).drives = s.drives ∧
    (setBlend b s).counters = s.counters ∧ (setBlend b s).store = s.store := ⟨rfl, rfl, rfl, rfl, rfl, rfl, rfl, rfl, rfl, rfl, rfl, rfl⟩

@[simp] theorem setDwell_fields (d : Option Time) :
    (setDwell d s).pending = s.pending ∧ (setDwell d s).pins = s.pins ∧ (setDwell d s).link = s.link ∧
    (setDwell d s).timeBase = s.timeBase ∧ (setDwell d s).intake = s.intake ∧ (setDwell d s).channels = s.channels ∧
    (setDwell d s).wheels = s.wheels ∧ (setDwell d s).law = s.law ∧
    (setDwell d s).regime = { s.regime with dwellStart := d } ∧ (setDwell d s).drives = s.drives ∧
    (setDwell d s).counters = s.counters ∧ (setDwell d s).store = s.store := ⟨rfl, rfl, rfl, rfl, rfl, rfl, rfl, rfl, rfl, rfl, rfl, rfl⟩

@[simp] theorem setPhase_fields (p : Option HomingPhase) :
    (setPhase p s).pending = s.pending ∧ (setPhase p s).pins = s.pins ∧ (setPhase p s).link = s.link ∧
    (setPhase p s).timeBase = s.timeBase ∧ (setPhase p s).intake = s.intake ∧ (setPhase p s).channels = s.channels ∧
    (setPhase p s).wheels = s.wheels ∧ (setPhase p s).law = s.law ∧
    (setPhase p s).regime = { s.regime with phase := p } ∧ (setPhase p s).drives = s.drives ∧
    (setPhase p s).counters = s.counters ∧ (setPhase p s).store = s.store := ⟨rfl, rfl, rfl, rfl, rfl, rfl, rfl, rfl, rfl, rfl, rfl, rfl⟩

@[simp] theorem setSafeHolding_fields (h : Option Bool) :
    (setSafeHolding h s).pending = s.pending ∧ (setSafeHolding h s).pins = s.pins ∧
    (setSafeHolding h s).link = s.link ∧ (setSafeHolding h s).timeBase = s.timeBase ∧
    (setSafeHolding h s).intake = s.intake ∧ (setSafeHolding h s).channels = s.channels ∧
    (setSafeHolding h s).wheels = s.wheels ∧ (setSafeHolding h s).law = s.law ∧
    (setSafeHolding h s).regime = { s.regime with safeHolding := h } ∧ (setSafeHolding h s).drives = s.drives ∧
    (setSafeHolding h s).counters = s.counters ∧ (setSafeHolding h s).store = s.store := ⟨rfl, rfl, rfl, rfl, rfl, rfl, rfl, rfl, rfl, rfl, rfl, rfl⟩

@[simp] theorem appendRecord_fields (cause : AbortCause) (r : Regime) (v : Nat) :
    (appendRecord cause r v s).pending = s.pending ∧ (appendRecord cause r v s).pins = s.pins ∧
    (appendRecord cause r v s).link = s.link ∧ (appendRecord cause r v s).timeBase = s.timeBase ∧
    (appendRecord cause r v s).intake = s.intake ∧ (appendRecord cause r v s).channels = s.channels ∧
    (appendRecord cause r v s).wheels = s.wheels ∧ (appendRecord cause r v s).law = s.law ∧
    (appendRecord cause r v s).regime = { s.regime with history := pushRecord s.regime.history (makeRecord cause r v s) } ∧
    (appendRecord cause r v s).drives = s.drives ∧ (appendRecord cause r v s).counters = s.counters ∧
    (appendRecord cause r v s).store = s.store := ⟨rfl, rfl, rfl, rfl, rfl, rfl, rfl, rfl, rfl, rfl, rfl, rfl⟩

@[simp] theorem setBrks_fields (b : Bool) :
    (setBrks b s).pending = s.pending ∧ (setBrks b s).pins = { s.pins with brks := b } ∧
    (setBrks b s).link = s.link ∧ (setBrks b s).timeBase = s.timeBase ∧ (setBrks b s).intake = s.intake ∧
    (setBrks b s).channels = s.channels ∧ (setBrks b s).wheels = s.wheels ∧ (setBrks b s).law = s.law ∧
    (setBrks b s).regime = s.regime ∧ (setBrks b s).drives = s.drives ∧ (setBrks b s).counters = s.counters ∧
    (setBrks b s).store = s.store := ⟨rfl, rfl, rfl, rfl, rfl, rfl, rfl, rfl, rfl, rfl, rfl, rfl⟩

@[simp] theorem sampleSides_fields (t u : Bool) :
    (sampleSides t u s).pending = s.pending ∧ (sampleSides t u s).pins = { s.pins with tside := t, sside := u } ∧
    (sampleSides t u s).link = s.link ∧ (sampleSides t u s).timeBase = s.timeBase ∧
    (sampleSides t u s).intake = s.intake ∧ (sampleSides t u s).channels = s.channels ∧
    (sampleSides t u s).wheels = s.wheels ∧ (sampleSides t u s).law = s.law ∧
    (sampleSides t u s).regime = s.regime ∧ (sampleSides t u s).drives = s.drives ∧
    (sampleSides t u s).counters = s.counters ∧ (sampleSides t u s).store = s.store := ⟨rfl, rfl, rfl, rfl, rfl, rfl, rfl, rfl, rfl, rfl, rfl, rfl⟩

@[simp] theorem beginPeriod_fields (t u : Bool) :
    (beginPeriod t u s).pending = s.pending ∧ (beginPeriod t u s).pins = { s.pins with toc := t, soc := u } ∧
    (beginPeriod t u s).link = s.link ∧ (beginPeriod t u s).timeBase = s.timeBase ∧
    (beginPeriod t u s).intake = s.intake ∧ (beginPeriod t u s).channels = s.channels ∧
    (beginPeriod t u s).wheels = s.wheels ∧ (beginPeriod t u s).law = s.law ∧
    (beginPeriod t u s).regime = s.regime ∧ (beginPeriod t u s).drives = { s.drives with periodStart := now s } ∧
    (beginPeriod t u s).counters = s.counters ∧ (beginPeriod t u s).store = s.store := ⟨rfl, rfl, rfl, rfl, rfl, rfl, rfl, rfl, rfl, rfl, rfl, rfl⟩

@[simp] theorem beginLoop_fields :
    (beginLoop s).pending = s.pending ∧ (beginLoop s).pins = s.pins ∧ (beginLoop s).link = s.link ∧
    (beginLoop s).timeBase = s.timeBase ∧ (beginLoop s).intake = s.intake ∧ (beginLoop s).channels = s.channels ∧
    (beginLoop s).wheels = s.wheels ∧ (beginLoop s).law = s.law ∧ (beginLoop s).regime = s.regime ∧
    (beginLoop s).drives = { s.drives with latestLoop := now s } ∧ (beginLoop s).counters = s.counters ∧
    (beginLoop s).store = s.store := ⟨rfl, rfl, rfl, rfl, rfl, rfl, rfl, rfl, rfl, rfl, rfl, rfl⟩

@[simp] theorem setRun_fields (r : Option SlipRun) :
    (setRun r s).pending = s.pending ∧ (setRun r s).pins = s.pins ∧ (setRun r s).link = s.link ∧
    (setRun r s).timeBase = s.timeBase ∧ (setRun r s).intake = s.intake ∧ (setRun r s).channels = s.channels ∧
    (setRun r s).wheels = { s.wheels with run := r } ∧ (setRun r s).law = s.law ∧ (setRun r s).regime = s.regime ∧
    (setRun r s).drives = s.drives ∧ (setRun r s).counters = s.counters ∧ (setRun r s).store = s.store := ⟨rfl, rfl, rfl, rfl, rfl, rfl, rfl, rfl, rfl, rfl, rfl, rfl⟩

@[simp] theorem setTimeBase_fields (t : TimeBase) :
    (setTimeBase t s).pending = s.pending ∧ (setTimeBase t s).pins = s.pins ∧ (setTimeBase t s).link = s.link ∧
    (setTimeBase t s).timeBase = t ∧ (setTimeBase t s).intake = s.intake ∧ (setTimeBase t s).channels = s.channels ∧
    (setTimeBase t s).wheels = s.wheels ∧ (setTimeBase t s).law = s.law ∧ (setTimeBase t s).regime = s.regime ∧
    (setTimeBase t s).drives = s.drives ∧ (setTimeBase t s).counters = s.counters ∧
    (setTimeBase t s).store = s.store := ⟨rfl, rfl, rfl, rfl, rfl, rfl, rfl, rfl, rfl, rfl, rfl, rfl⟩

@[simp] theorem setStore_fields (t : Store) :
    (setStore t s).pending = s.pending ∧ (setStore t s).pins = s.pins ∧ (setStore t s).link = s.link ∧
    (setStore t s).timeBase = s.timeBase ∧ (setStore t s).intake = s.intake ∧ (setStore t s).channels = s.channels ∧
    (setStore t s).wheels = s.wheels ∧ (setStore t s).law = s.law ∧ (setStore t s).regime = s.regime ∧
    (setStore t s).drives = s.drives ∧ (setStore t s).counters = s.counters ∧ (setStore t s).store = t := ⟨rfl, rfl, rfl, rfl, rfl, rfl, rfl, rfl, rfl, rfl, rfl, rfl⟩

@[simp] theorem setWorking_fields (c : Calibration) :
    (setWorking c s).pending = s.pending ∧ (setWorking c s).pins = s.pins ∧ (setWorking c s).link = s.link ∧
    (setWorking c s).timeBase = s.timeBase ∧ (setWorking c s).intake = s.intake ∧
    (setWorking c s).channels = s.channels ∧ (setWorking c s).wheels = s.wheels ∧ (setWorking c s).law = s.law ∧
    (setWorking c s).regime = s.regime ∧ (setWorking c s).drives = s.drives ∧
    (setWorking c s).counters = s.counters ∧ (setWorking c s).store = { s.store with working := c } := ⟨rfl, rfl, rfl, rfl, rfl, rfl, rfl, rfl, rfl, rfl, rfl, rfl⟩

@[simp] theorem startPoll_fields (p : StoreStep) (t : Store) :
    (startPoll p t s).pending = s.pending ∧ (startPoll p t s).pins = s.pins ∧ (startPoll p t s).link = s.link ∧
    (startPoll p t s).timeBase = s.timeBase ∧ (startPoll p t s).intake = s.intake ∧
    (startPoll p t s).channels = s.channels ∧ (startPoll p t s).wheels = s.wheels ∧ (startPoll p t s).law = s.law ∧
    (startPoll p t s).regime = s.regime ∧ (startPoll p t s).drives = s.drives ∧
    (startPoll p t s).counters = s.counters ∧
    (startPoll p t s).store = { t with step := some p, pollLimit := some (after (now s) 1000000) } := ⟨rfl, rfl, rfl, rfl, rfl, rfl, rfl, rfl, rfl, rfl, rfl, rfl⟩

@[simp] theorem goToStep_fields (p : StoreStep) :
    (goToStep p s).pending = s.pending ∧ (goToStep p s).pins = s.pins ∧ (goToStep p s).link = s.link ∧
    (goToStep p s).timeBase = s.timeBase ∧ (goToStep p s).intake = s.intake ∧ (goToStep p s).channels = s.channels ∧
    (goToStep p s).wheels = s.wheels ∧ (goToStep p s).law = s.law ∧ (goToStep p s).regime = s.regime ∧
    (goToStep p s).drives = s.drives ∧ (goToStep p s).counters = s.counters ∧
    (goToStep p s).store = { s.store with step := some p, pollLimit := none } := ⟨rfl, rfl, rfl, rfl, rfl, rfl, rfl, rfl, rfl, rfl, rfl, rfl⟩

@[simp] theorem setCounter_fields (i : Fin 8) (c : Counter) :
    (setCounter i c s).pending = s.pending ∧ (setCounter i c s).pins = s.pins ∧ (setCounter i c s).link = s.link ∧
    (setCounter i c s).timeBase = s.timeBase ∧ (setCounter i c s).intake = s.intake ∧
    (setCounter i c s).channels = s.channels ∧ (setCounter i c s).wheels = s.wheels ∧
    (setCounter i c s).law = s.law ∧ (setCounter i c s).regime = s.regime ∧ (setCounter i c s).drives = s.drives ∧
    (setCounter i c s).counters = { s.counters with counters := s.counters.counters.set i c } ∧
    (setCounter i c s).store = s.store := ⟨rfl, rfl, rfl, rfl, rfl, rfl, rfl, rfl, rfl, rfl, rfl, rfl⟩

@[simp] theorem setReceiveQueue_fields (q : List Frame) :
    (setReceiveQueue q s).pending = s.pending ∧ (setReceiveQueue q s).pins = s.pins ∧
    (setReceiveQueue q s).link = { s.link with receiveQueue := q } ∧ (setReceiveQueue q s).timeBase = s.timeBase ∧
    (setReceiveQueue q s).intake = s.intake ∧ (setReceiveQueue q s).channels = s.channels ∧
    (setReceiveQueue q s).wheels = s.wheels ∧ (setReceiveQueue q s).law = s.law ∧
    (setReceiveQueue q s).regime = s.regime ∧ (setReceiveQueue q s).drives = s.drives ∧
    (setReceiveQueue q s).counters = s.counters ∧ (setReceiveQueue q s).store = s.store := ⟨rfl, rfl, rfl, rfl, rfl, rfl, rfl, rfl, rfl, rfl, rfl, rfl⟩

@[simp] theorem closeHandover_fields :
    (closeHandover s).pending = s.pending ∧ (closeHandover s).pins = s.pins ∧
    (closeHandover s).link = { s.link with handover := .closed } ∧ (closeHandover s).timeBase = s.timeBase ∧
    (closeHandover s).intake = s.intake ∧ (closeHandover s).channels = s.channels ∧
    (closeHandover s).wheels = s.wheels ∧ (closeHandover s).law = s.law ∧ (closeHandover s).regime = s.regime ∧
    (closeHandover s).drives = s.drives ∧ (closeHandover s).counters = s.counters ∧
    (closeHandover s).store = s.store := ⟨rfl, rfl, rfl, rfl, rfl, rfl, rfl, rfl, rfl, rfl, rfl, rfl⟩

@[simp] theorem assemble_fields (r : Receiver) :
    (assemble r s).pending = s.pending ∧ (assemble r s).pins = s.pins ∧
    (assemble r s).link = { s.link with receiver := r, gapTimer := some (after (now s) 2000) } ∧
    (assemble r s).timeBase = s.timeBase ∧ (assemble r s).intake = s.intake ∧ (assemble r s).channels = s.channels ∧
    (assemble r s).wheels = s.wheels ∧ (assemble r s).law = s.law ∧ (assemble r s).regime = s.regime ∧
    (assemble r s).drives = s.drives ∧ (assemble r s).counters = s.counters ∧ (assemble r s).store = s.store := ⟨rfl, rfl, rfl, rfl, rfl, rfl, rfl, rfl, rfl, rfl, rfl, rfl⟩

@[simp] theorem endAssembly_fields :
    (endAssembly s).pending = s.pending ∧ (endAssembly s).pins = s.pins ∧
    (endAssembly s).link = { s.link with receiver := .hunt, gapTimer := none } ∧
    (endAssembly s).timeBase = s.timeBase ∧ (endAssembly s).intake = s.intake ∧
    (endAssembly s).channels = s.channels ∧ (endAssembly s).wheels = s.wheels ∧ (endAssembly s).law = s.law ∧
    (endAssembly s).regime = s.regime ∧ (endAssembly s).drives = s.drives ∧ (endAssembly s).counters = s.counters ∧
    (endAssembly s).store = s.store := ⟨rfl, rfl, rfl, rfl, rfl, rfl, rfl, rfl, rfl, rfl, rfl, rfl⟩

@[simp] theorem postLink_fields (f : Link → Link) :
    (postLink f s).pending = s.pending ∧ (postLink f s).pins = s.pins ∧
    (postLink f s).link = selectToSend (f s.link) ∧ (postLink f s).timeBase = s.timeBase ∧
    (postLink f s).intake = s.intake ∧ (postLink f s).channels = s.channels ∧ (postLink f s).wheels = s.wheels ∧
    (postLink f s).law = s.law ∧ (postLink f s).regime = s.regime ∧ (postLink f s).drives = s.drives ∧
    (postLink f s).counters = s.counters ∧ (postLink f s).store = s.store := ⟨rfl, rfl, rfl, rfl, rfl, rfl, rfl, rfl, rfl, rfl, rfl, rfl⟩

@[simp] theorem tick_fields :
    (tick s).pending = s.pending ∧ (tick s).pins = s.pins ∧ (tick s).link = s.link ∧
    (tick s).timeBase = { s.timeBase with localTime := s.timeBase.localTime + 1 } ∧ (tick s).intake = s.intake ∧
    (tick s).channels = s.channels ∧ (tick s).wheels = s.wheels ∧ (tick s).law = s.law ∧
    (tick s).regime = s.regime ∧ (tick s).drives = s.drives ∧ (tick s).counters = s.counters ∧
    (tick s).store = s.store := ⟨rfl, rfl, rfl, rfl, rfl, rfl, rfl, rfl, rfl, rfl, rfl, rfl⟩

@[simp] theorem clampLambda_fields :
    (clampLambda s).pending = s.pending ∧ (clampLambda s).pins = s.pins ∧ (clampLambda s).link = s.link ∧
    (clampLambda s).timeBase = s.timeBase ∧ (clampLambda s).intake = s.intake ∧
    (clampLambda s).channels = s.channels ∧ (clampLambda s).wheels = s.wheels ∧
    (clampLambda s).law = { s.law with lambdaT := clampSym (par s).tiltLimit s.law.lambdaT } ∧
    (clampLambda s).regime = s.regime ∧ (clampLambda s).drives = s.drives ∧ (clampLambda s).counters = s.counters ∧
    (clampLambda s).store = s.store := ⟨rfl, rfl, rfl, rfl, rfl, rfl, rfl, rfl, rfl, rfl, rfl, rfl⟩

@[simp] theorem clampDelta_fields :
    (clampDelta s).pending = s.pending ∧ (clampDelta s).pins = s.pins ∧ (clampDelta s).link = s.link ∧
    (clampDelta s).timeBase = s.timeBase ∧ (clampDelta s).intake = s.intake ∧ (clampDelta s).channels = s.channels ∧
    (clampDelta s).wheels = s.wheels ∧
    (clampDelta s).law = { s.law with deltaT := clampSym (par s).steerLimit s.law.deltaT } ∧
    (clampDelta s).regime = s.regime ∧ (clampDelta s).drives = s.drives ∧ (clampDelta s).counters = s.counters ∧
    (clampDelta s).store = s.store := ⟨rfl, rfl, rfl, rfl, rfl, rfl, rfl, rfl, rfl, rfl, rfl, rfl⟩

@[simp] theorem camberLimitChanged_fields :
    (camberLimitChanged s).pending = s.pending ∧ (camberLimitChanged s).pins = s.pins ∧
    (camberLimitChanged s).link = s.link ∧ (camberLimitChanged s).timeBase = s.timeBase ∧
    (camberLimitChanged s).intake = { s.intake with cEst := clampSym (par s).camberLimit s.intake.cEst } ∧
    (camberLimitChanged s).channels = s.channels ∧ (camberLimitChanged s).wheels = s.wheels ∧
    (camberLimitChanged s).law = s.law ∧ (camberLimitChanged s).regime = s.regime ∧
    (camberLimitChanged s).drives = s.drives ∧ (camberLimitChanged s).counters = s.counters ∧
    (camberLimitChanged s).store = s.store := ⟨rfl, rfl, rfl, rfl, rfl, rfl, rfl, rfl, rfl, rfl, rfl, rfl⟩

@[simp] theorem targetSet_fields :
    (targetSet s).pending = s.pending ∧ (targetSet s).pins = s.pins ∧ (targetSet s).link = s.link ∧
    (targetSet s).timeBase = s.timeBase ∧ (targetSet s).intake = s.intake ∧ (targetSet s).channels = s.channels ∧
    (targetSet s).wheels = s.wheels ∧ (targetSet s).regime = s.regime ∧ (targetSet s).drives = s.drives ∧
    (targetSet s).counters = s.counters ∧ (targetSet s).store = s.store := ⟨rfl, rfl, rfl, rfl, rfl, rfl, rfl, rfl, rfl, rfl, rfl⟩

@[simp] theorem reportPeriodChanged_fields :
    (reportPeriodChanged s).pending = s.pending ∧ (reportPeriodChanged s).pins = s.pins ∧
    (reportPeriodChanged s).timeBase = s.timeBase ∧ (reportPeriodChanged s).intake = s.intake ∧
    (reportPeriodChanged s).channels = s.channels ∧ (reportPeriodChanged s).wheels = s.wheels ∧
    (reportPeriodChanged s).law = s.law ∧ (reportPeriodChanged s).regime = s.regime ∧
    (reportPeriodChanged s).drives = s.drives ∧ (reportPeriodChanged s).counters = s.counters ∧
    (reportPeriodChanged s).store = s.store := ⟨rfl, rfl, rfl, rfl, rfl, rfl, rfl, rfl, rfl, rfl, rfl⟩

@[simp] theorem uMaxChanged_fields :
    (uMaxChanged s).pending = s.pending ∧ (uMaxChanged s).pins = s.pins ∧ (uMaxChanged s).link = s.link ∧
    (uMaxChanged s).timeBase = s.timeBase ∧ (uMaxChanged s).intake = s.intake ∧
    (uMaxChanged s).channels = s.channels ∧ (uMaxChanged s).wheels = s.wheels ∧ (uMaxChanged s).law = s.law ∧
    (uMaxChanged s).regime = s.regime ∧
    (uMaxChanged s).drives = { s.drives with tilt := clampDuties (par s).uMax s.drives.tilt, steer := clampDuties (par s).uMax s.drives.steer } ∧
    (uMaxChanged s).counters = s.counters ∧ (uMaxChanged s).store = s.store := ⟨rfl, rfl, rfl, rfl, rfl, rfl, rfl, rfl, rfl, rfl, rfl, rfl⟩

/-! ### Reading what was written -/

@[simp] theorem getChannel_setChannel (c : ChannelId) (r : Channel) : getChannel (setChannel c r s) c = r := by
  cases c <;> rfl

theorem getChannel_setChannel_of_ne {c d : ChannelId} (r : Channel) (h : d ≠ c) :
    getChannel (setChannel c r s) d = getChannel s d := by
  cases c <;> cases d <;> first | rfl | exact absurd rfl h

@[simp] theorem getDrive_setDrive (d : DriveId) (r : Drive) : getDrive (setDrive d r s) d = r := by
  cases d <;> rfl

theorem getDrive_setDrive_of_ne {d e : DriveId} (r : Drive) (h : e ≠ d) :
    getDrive (setDrive d r s) e = getDrive s e := by
  cases d <;> cases e <;> first | rfl | exact absurd rfl h

@[simp] theorem setDrive_brake (d : DriveId) (r : Drive) : (setDrive d r s).drives.brake = s.drives.brake := by
  cases d <;> rfl

@[simp] theorem setDrive_grids (d : DriveId) (r : Drive) :
    (setDrive d r s).drives.periodStart = s.drives.periodStart ∧
    (setDrive d r s).drives.latestLoop = s.drives.latestLoop := by
  cases d <;> exact ⟨rfl, rfl⟩

@[simp] theorem getWheel_setWheel (w : WheelId) (r : Wheel) : getWheel (setWheel w r s) w = r := by
  cases w <;> rfl

theorem getWheel_setWheel_of_ne {w x : WheelId} (r : Wheel) (h : x ≠ w) :
    getWheel (setWheel w r s) x = getWheel s x := by
  cases w <;> cases x <;> first | rfl | exact absurd rfl h

@[simp] theorem setWheel_slip (w : WheelId) (r : Wheel) :
    (setWheel w r s).wheels.slip = s.wheels.slip ∧ (setWheel w r s).wheels.run = s.wheels.run := by
  cases w <;> exact ⟨rfl, rfl⟩

end Sys2Proof.Machine
end

