-- ==== Sys2Proof/Laws/Frames.lean ====
section
/-! SUPPORT. The frame of every shared operation: the components of the state that it never changes, one simp lemma per
operation, so that later proofs cite it in place of unfolding the operation. -/

namespace Sys2Proof.Machine

variable (s : State)

/-! ### Posting -/

@[simp] theorem postReply_frame (r : Reply) :
    (postReply r s).pending = s.pending ∧ (postReply r s).pins = s.pins ∧ (postReply r s).timeBase = s.timeBase ∧
    (postReply r s).intake = s.intake ∧ (postReply r s).channels = s.channels ∧ (postReply r s).wheels = s.wheels ∧
    (postReply r s).law = s.law ∧ (postReply r s).regime = s.regime ∧ (postReply r s).drives = s.drives ∧
    (postReply r s).counters = s.counters ∧ (postReply r s).store = s.store := by
  refine ⟨?_, ?_, ?_, ?_, ?_, ?_, ?_, ?_, ?_, ?_, ?_⟩ <;> unfold postReply <;> simp

@[simp] theorem postRegimeNotice_frame (r : RegimeNotice) :
    (postRegimeNotice r s).pending = s.pending ∧ (postRegimeNotice r s).pins = s.pins ∧
    (postRegimeNotice r s).timeBase = s.timeBase ∧ (postRegimeNotice r s).intake = s.intake ∧
    (postRegimeNotice r s).channels = s.channels ∧ (postRegimeNotice r s).wheels = s.wheels ∧
    (postRegimeNotice r s).law = s.law ∧ (postRegimeNotice r s).regime = s.regime ∧
    (postRegimeNotice r s).drives = s.drives ∧ (postRegimeNotice r s).counters = s.counters ∧
    (postRegimeNotice r s).store = s.store := by
  refine ⟨?_, ?_, ?_, ?_, ?_, ?_, ?_, ?_, ?_, ?_, ?_⟩ <;> unfold postRegimeNotice <;> simp

@[simp] theorem postFaultNotice_frame (r : FaultNotice) :
    (postFaultNotice r s).pending = s.pending ∧ (postFaultNotice r s).pins = s.pins ∧
    (postFaultNotice r s).timeBase = s.timeBase ∧ (postFaultNotice r s).intake = s.intake ∧
    (postFaultNotice r s).channels = s.channels ∧ (postFaultNotice r s).wheels = s.wheels ∧
    (postFaultNotice r s).law = s.law ∧ (postFaultNotice r s).regime = s.regime ∧
    (postFaultNotice r s).drives = s.drives ∧ (postFaultNotice r s).counters = s.counters ∧
    (postFaultNotice r s).store = s.store := by
  refine ⟨?_, ?_, ?_, ?_, ?_, ?_, ?_, ?_, ?_, ?_, ?_⟩ <;> unfold postFaultNotice <;> simp

@[simp] theorem postStoreNotice_frame (r : StoreNotice) :
    (postStoreNotice r s).pending = s.pending ∧ (postStoreNotice r s).pins = s.pins ∧
    (postStoreNotice r s).timeBase = s.timeBase ∧ (postStoreNotice r s).intake = s.intake ∧
    (postStoreNotice r s).channels = s.channels ∧ (postStoreNotice r s).wheels = s.wheels ∧
    (postStoreNotice r s).law = s.law ∧ (postStoreNotice r s).regime = s.regime ∧
    (postStoreNotice r s).drives = s.drives ∧ (postStoreNotice r s).counters = s.counters ∧
    (postStoreNotice r s).store = s.store := by
  refine ⟨?_, ?_, ?_, ?_, ?_, ?_, ?_, ?_, ?_, ?_, ?_⟩ <;> unfold postStoreNotice <;> simp

@[simp] theorem postTimebaseNotice_frame (r : TimebaseNotice) :
    (postTimebaseNotice r s).pending = s.pending ∧ (postTimebaseNotice r s).pins = s.pins ∧
    (postTimebaseNotice r s).timeBase = s.timeBase ∧ (postTimebaseNotice r s).intake = s.intake ∧
    (postTimebaseNotice r s).channels = s.channels ∧ (postTimebaseNotice r s).wheels = s.wheels ∧
    (postTimebaseNotice r s).law = s.law ∧ (postTimebaseNotice r s).regime = s.regime ∧
    (postTimebaseNotice r s).drives = s.drives ∧ (postTimebaseNotice r s).counters = s.counters ∧
    (postTimebaseNotice r s).store = s.store := by
  refine ⟨?_, ?_, ?_, ?_, ?_, ?_, ?_, ?_, ?_, ?_, ?_⟩ <;> unfold postTimebaseNotice <;> simp

@[simp] theorem postThresholdNotice_frame (r : ThresholdNotice) :
    (postThresholdNotice r s).pending = s.pending ∧ (postThresholdNotice r s).pins = s.pins ∧
    (postThresholdNotice r s).timeBase = s.timeBase ∧ (postThresholdNotice r s).intake = s.intake ∧
    (postThresholdNotice r s).channels = s.channels ∧ (postThresholdNotice r s).wheels = s.wheels ∧
    (postThresholdNotice r s).law = s.law ∧ (postThresholdNotice r s).regime = s.regime ∧
    (postThresholdNotice r s).drives = s.drives ∧ (postThresholdNotice r s).counters = s.counters ∧
    (postThresholdNotice r s).store = s.store := by
  refine ⟨?_, ?_, ?_, ?_, ?_, ?_, ?_, ?_, ?_, ?_, ?_⟩ <;> unfold postThresholdNotice <;> simp

@[simp] theorem refuse_frame (k : RequestKind) (code : RefusalCode) :
    (refuse k code s).pending = s.pending ∧ (refuse k code s).pins = s.pins ∧
    (refuse k code s).timeBase = s.timeBase ∧ (refuse k code s).intake = s.intake ∧
    (refuse k code s).channels = s.channels ∧ (refuse k code s).wheels = s.wheels ∧ (refuse k code s).law = s.law ∧
    (refuse k code s).regime = s.regime ∧ (refuse k code s).drives = s.drives ∧
    (refuse k code s).counters = s.counters ∧ (refuse k code s).store = s.store := by
  refine ⟨?_, ?_, ?_, ?_, ?_, ?_, ?_, ?_, ?_, ?_, ?_⟩ <;> unfold refuse <;> simp

@[simp] theorem accept_frame (data : ReplyData) :
    (accept data s).pending = s.pending ∧ (accept data s).pins = s.pins ∧ (accept data s).timeBase = s.timeBase ∧
    (accept data s).intake = s.intake ∧ (accept data s).channels = s.channels ∧ (accept data s).wheels = s.wheels ∧
    (accept data s).law = s.law ∧ (accept data s).regime = s.regime ∧ (accept data s).drives = s.drives ∧
    (accept data s).counters = s.counters ∧ (accept data s).store = s.store := by
  refine ⟨?_, ?_, ?_, ?_, ?_, ?_, ?_, ?_, ?_, ?_, ?_⟩ <;> unfold accept <;> simp

/-! ### Counting -/

@[simp] theorem offerTo_frame (take : Counter → Counter × Bool) (i : Fin 8) :
    (offerTo take s i).pending = s.pending ∧ (offerTo take s i).pins = s.pins ∧
    (offerTo take s i).timeBase = s.timeBase ∧ (offerTo take s i).intake = s.intake ∧
    (offerTo take s i).channels = s.channels ∧ (offerTo take s i).wheels = s.wheels ∧
    (offerTo take s i).law = s.law ∧ (offerTo take s i).regime = s.regime ∧ (offerTo take s i).drives = s.drives ∧
    (offerTo take s i).store = s.store := by
  refine ⟨?_, ?_, ?_, ?_, ?_, ?_, ?_, ?_, ?_, ?_⟩ <;> (unfold offerTo; (try dsimp only); repeat' split) <;> simp

theorem foldl_offerTo_frame (take : Counter → Counter × Bool) (l : List (Fin 8)) : ∀ s : State,
    l.foldl (offerTo take) s =
      { s with
        link := (l.foldl (offerTo take) s).link
        counters := (l.foldl (offerTo take) s).counters } := by
  induction l with
  | nil => exact fun s => rfl
  | cons i l ih =>
    intro s
    rw [List.foldl_cons, ih (offerTo take s i)]
    simp

@[simp] theorem offerAll_frame (take : Counter → Counter × Bool) :
    (offerAll take s).pending = s.pending ∧ (offerAll take s).pins = s.pins ∧
    (offerAll take s).timeBase = s.timeBase ∧ (offerAll take s).intake = s.intake ∧
    (offerAll take s).channels = s.channels ∧ (offerAll take s).wheels = s.wheels ∧ (offerAll take s).law = s.law ∧
    (offerAll take s).regime = s.regime ∧ (offerAll take s).drives = s.drives ∧ (offerAll take s).store = s.store := by
  unfold offerAll; rw [foldl_offerTo_frame]; simp

@[simp] theorem deliver_frame (e : CounterEvent) (k : Byte) :
    (deliver e k s).pending = s.pending ∧ (deliver e k s).pins = s.pins ∧ (deliver e k s).timeBase = s.timeBase ∧
    (deliver e k s).intake = s.intake ∧ (deliver e k s).channels = s.channels ∧ (deliver e k s).wheels = s.wheels ∧
    (deliver e k s).law = s.law ∧ (deliver e k s).regime = s.regime ∧ (deliver e k s).drives = s.drives ∧
    (deliver e k s).store = s.store := by
  refine ⟨?_, ?_, ?_, ?_, ?_, ?_, ?_, ?_, ?_, ?_⟩ <;> unfold deliver <;> simp

@[simp] theorem deliverAge_frame (n : Nat) :
    (deliverAge n s).pending = s.pending ∧ (deliverAge n s).pins = s.pins ∧ (deliverAge n s).timeBase = s.timeBase ∧
    (deliverAge n s).intake = s.intake ∧ (deliverAge n s).channels = s.channels ∧
    (deliverAge n s).wheels = s.wheels ∧ (deliverAge n s).law = s.law ∧ (deliverAge n s).regime = s.regime ∧
    (deliverAge n s).drives = s.drives ∧ (deliverAge n s).store = s.store := by
  refine ⟨?_, ?_, ?_, ?_, ?_, ?_, ?_, ?_, ?_, ?_⟩ <;> unfold deliverAge <;> simp

@[simp] theorem deliverConditions_frame (c : Conditions) :
    (deliverConditions c s).pending = s.pending ∧ (deliverConditions c s).pins = s.pins ∧
    (deliverConditions c s).timeBase = s.timeBase ∧ (deliverConditions c s).intake = s.intake ∧
    (deliverConditions c s).channels = s.channels ∧ (deliverConditions c s).wheels = s.wheels ∧
    (deliverConditions c s).law = s.law ∧ (deliverConditions c s).regime = s.regime ∧
    (deliverConditions c s).drives = s.drives ∧ (deliverConditions c s).store = s.store := by
  refine ⟨?_, ?_, ?_, ?_, ?_, ?_, ?_, ?_, ?_, ?_⟩ <;> (unfold deliverConditions; (try dsimp only)) <;> simp

@[simp] theorem deliverSlipWheel_frame (v : Bool) :
    (deliverSlipWheel v s).pending = s.pending ∧ (deliverSlipWheel v s).pins = s.pins ∧
    (deliverSlipWheel v s).timeBase = s.timeBase ∧ (deliverSlipWheel v s).intake = s.intake ∧
    (deliverSlipWheel v s).channels = s.channels ∧ (deliverSlipWheel v s).wheels = s.wheels ∧
    (deliverSlipWheel v s).law = s.law ∧ (deliverSlipWheel v s).regime = s.regime ∧
    (deliverSlipWheel v s).drives = s.drives ∧ (deliverSlipWheel v s).store = s.store := by
  refine ⟨?_, ?_, ?_, ?_, ?_, ?_, ?_, ?_, ?_, ?_⟩ <;> (unfold deliverSlipWheel; (try dsimp only)) <;> simp

@[simp] theorem deliverSlipYaw_frame (v : Bool) :
    (deliverSlipYaw v s).pending = s.pending ∧ (deliverSlipYaw v s).pins = s.pins ∧
    (deliverSlipYaw v s).timeBase = s.timeBase ∧ (deliverSlipYaw v s).intake = s.intake ∧
    (deliverSlipYaw v s).channels = s.channels ∧ (deliverSlipYaw v s).wheels = s.wheels ∧
    (deliverSlipYaw v s).law = s.law ∧ (deliverSlipYaw v s).regime = s.regime ∧
    (deliverSlipYaw v s).drives = s.drives ∧ (deliverSlipYaw v s).store = s.store := by
  refine ⟨?_, ?_, ?_, ?_, ?_, ?_, ?_, ?_, ?_, ?_⟩ <;> (unfold deliverSlipYaw; (try dsimp only)) <;> simp

@[simp] theorem deliverLeanLimited_frame (v : Bool) :
    (deliverLeanLimited v s).pending = s.pending ∧ (deliverLeanLimited v s).pins = s.pins ∧
    (deliverLeanLimited v s).timeBase = s.timeBase ∧ (deliverLeanLimited v s).intake = s.intake ∧
    (deliverLeanLimited v s).channels = s.channels ∧ (deliverLeanLimited v s).wheels = s.wheels ∧
    (deliverLeanLimited v s).law = s.law ∧ (deliverLeanLimited v s).regime = s.regime ∧
    (deliverLeanLimited v s).drives = s.drives ∧ (deliverLeanLimited v s).store = s.store := by
  refine ⟨?_, ?_, ?_, ?_, ?_, ?_, ?_, ?_, ?_, ?_⟩ <;> (unfold deliverLeanLimited; (try dsimp only)) <;> simp

@[simp] theorem deliverSaturated_frame (d : DriveId) (v : Bool) :
    (deliverSaturated d v s).pending = s.pending ∧ (deliverSaturated d v s).pins = s.pins ∧
    (deliverSaturated d v s).timeBase = s.timeBase ∧ (deliverSaturated d v s).intake = s.intake ∧
    (deliverSaturated d v s).channels = s.channels ∧ (deliverSaturated d v s).wheels = s.wheels ∧
    (deliverSaturated d v s).law = s.law ∧ (deliverSaturated d v s).regime = s.regime ∧
    (deliverSaturated d v s).drives = s.drives ∧ (deliverSaturated d v s).store = s.store := by
  refine ⟨?_, ?_, ?_, ?_, ?_, ?_, ?_, ?_, ?_, ?_⟩ <;> (unfold deliverSaturated; (try dsimp only); repeat' split) <;> simp

@[simp] theorem deliverDegraded_frame (q : Quality) :
    (deliverDegraded q s).pending = s.pending ∧ (deliverDegraded q s).pins = s.pins ∧
    (deliverDegraded q s).timeBase = s.timeBase ∧ (deliverDegraded q s).intake = s.intake ∧
    (deliverDegraded q s).channels = s.channels ∧ (deliverDegraded q s).wheels = s.wheels ∧
    (deliverDegraded q s).law = s.law ∧ (deliverDegraded q s).regime = s.regime ∧
    (deliverDegraded q s).drives = s.drives ∧ (deliverDegraded q s).store = s.store := by
  refine ⟨?_, ?_, ?_, ?_, ?_, ?_, ?_, ?_, ?_, ?_⟩ <;> (unfold deliverDegraded; (try dsimp only)) <;> simp

/-! ### Drives, brake and channels -/

@[simp] theorem endSaturation_frame (d : DriveId) :
    (endSaturation d s).pending = s.pending ∧ (endSaturation d s).pins = s.pins ∧
    (endSaturation d s).timeBase = s.timeBase ∧ (endSaturation d s).intake = s.intake ∧
    (endSaturation d s).channels = s.channels ∧ (endSaturation d s).wheels = s.wheels ∧
    (endSaturation d s).law = s.law ∧ (endSaturation d s).regime = s.regime ∧ (endSaturation d s).store = s.store := by
  refine ⟨?_, ?_, ?_, ?_, ?_, ?_, ?_, ?_, ?_⟩ <;> (unfold endSaturation; (try dsimp only); repeat' split) <;> simp

@[simp] theorem leaveMode_frame (d : DriveId) :
    (leaveMode d s).pending = s.pending ∧ (leaveMode d s).pins = s.pins ∧ (leaveMode d s).timeBase = s.timeBase ∧
    (leaveMode d s).intake = s.intake ∧ (leaveMode d s).channels = s.channels ∧ (leaveMode d s).wheels = s.wheels ∧
    (leaveMode d s).law = s.law ∧ (leaveMode d s).regime = s.regime ∧ (leaveMode d s).store = s.store := by
  refine ⟨?_, ?_, ?_, ?_, ?_, ?_, ?_, ?_, ?_⟩ <;> (unfold leaveMode; (try dsimp only); repeat' split) <;> simp

@[simp] theorem enterOff_frame (d : DriveId) :
    (enterOff d s).pending = s.pending ∧ (enterOff d s).pins = s.pins ∧ (enterOff d s).link = s.link ∧
    (enterOff d s).timeBase = s.timeBase ∧ (enterOff d s).intake = s.intake ∧ (enterOff d s).channels = s.channels ∧
    (enterOff d s).wheels = s.wheels ∧ (enterOff d s).law = s.law ∧ (enterOff d s).regime = s.regime ∧
    (enterOff d s).counters = s.counters ∧ (enterOff d s).store = s.store := by
  refine ⟨?_, ?_, ?_, ?_, ?_, ?_, ?_, ?_, ?_, ?_, ?_⟩ <;> (unfold enterOff; (try dsimp only)) <;> simp

@[simp] theorem enterCreep_frame (d : DriveId) :
    (enterCreep d s).pending = s.pending ∧ (enterCreep d s).pins = s.pins ∧ (enterCreep d s).link = s.link ∧
    (enterCreep d s).timeBase = s.timeBase ∧ (enterCreep d s).intake = s.intake ∧
    (enterCreep d s).channels = s.channels ∧ (enterCreep d s).wheels = s.wheels ∧ (enterCreep d s).law = s.law ∧
    (enterCreep d s).regime = s.regime ∧ (enterCreep d s).counters = s.counters ∧ (enterCreep d s).store = s.store := by
  refine ⟨?_, ?_, ?_, ?_, ?_, ?_, ?_, ?_, ?_, ?_, ?_⟩ <;> (unfold enterCreep; (try dsimp only)) <;> simp

@[simp] theorem enterLoop_frame (d : DriveId) (m : DriveMode) (h : Option Int) (x : Int) :
    (enterLoop d m h x s).pending = s.pending ∧ (enterLoop d m h x s).pins = s.pins ∧
    (enterLoop d m h x s).link = s.link ∧ (enterLoop d m h x s).timeBase = s.timeBase ∧
    (enterLoop d m h x s).intake = s.intake ∧ (enterLoop d m h x s).channels = s.channels ∧
    (enterLoop d m h x s).wheels = s.wheels ∧ (enterLoop d m h x s).law = s.law ∧
    (enterLoop d m h x s).regime = s.regime ∧ (enterLoop d m h x s).counters = s.counters ∧
    (enterLoop d m h x s).store = s.store := by
  refine ⟨?_, ?_, ?_, ?_, ?_, ?_, ?_, ?_, ?_, ?_, ?_⟩ <;> (unfold enterLoop; (try dsimp only)) <;> simp

@[simp] theorem commandDrive_frame (d : DriveId) (c : DriveCommand) :
    (commandDrive d c s).pending = s.pending ∧ (commandDrive d c s).pins = s.pins ∧
    (commandDrive d c s).timeBase = s.timeBase ∧ (commandDrive d c s).intake = s.intake ∧
    (commandDrive d c s).channels = s.channels ∧ (commandDrive d c s).wheels = s.wheels ∧
    (commandDrive d c s).law = s.law ∧ (commandDrive d c s).regime = s.regime ∧ (commandDrive d c s).store = s.store := by
  refine ⟨?_, ?_, ?_, ?_, ?_, ?_, ?_, ?_, ?_⟩ <;> (unfold commandDrive; repeat' split) <;> simp

@[simp] theorem bothOff_frame :
    (bothOff s).pending = s.pending ∧ (bothOff s).pins = s.pins ∧ (bothOff s).timeBase = s.timeBase ∧
    (bothOff s).intake = s.intake ∧ (bothOff s).channels = s.channels ∧ (bothOff s).wheels = s.wheels ∧
    (bothOff s).law = s.law ∧ (bothOff s).regime = s.regime ∧ (bothOff s).store = s.store := by
  refine ⟨?_, ?_, ?_, ?_, ?_, ?_, ?_, ?_, ?_⟩ <;> unfold bothOff <;> simp

@[simp] theorem startReleasing_frame :
    (startReleasing s).pending = s.pending ∧ (startReleasing s).pins = s.pins ∧ (startReleasing s).link = s.link ∧
    (startReleasing s).timeBase = s.timeBase ∧ (startReleasing s).intake = s.intake ∧
    (startReleasing s).channels = s.channels ∧ (startReleasing s).wheels = s.wheels ∧
    (startReleasing s).law = s.law ∧ (startReleasing s).regime = s.regime ∧
    (startReleasing s).counters = s.counters ∧ (startReleasing s).store = s.store := by
  refine ⟨?_, ?_, ?_, ?_, ?_, ?_, ?_, ?_, ?_, ?_, ?_⟩ <;> (unfold startReleasing; repeat' split) <;> simp

@[simp] theorem startEngaging_frame :
    (startEngaging s).pending = s.pending ∧ (startEngaging s).pins = s.pins ∧ (startEngaging s).link = s.link ∧
    (startEngaging s).timeBase = s.timeBase ∧ (startEngaging s).intake = s.intake ∧
    (startEngaging s).channels = s.channels ∧ (startEngaging s).wheels = s.wheels ∧ (startEngaging s).law = s.law ∧
    (startEngaging s).regime = s.regime ∧ (startEngaging s).counters = s.counters ∧
    (startEngaging s).store = s.store := by
  refine ⟨?_, ?_, ?_, ?_, ?_, ?_, ?_, ?_, ?_, ?_, ?_⟩ <;> (unfold startEngaging; repeat' split) <;> simp

@[simp] theorem commandRelease_frame :
    (commandRelease s).pending = s.pending ∧ (commandRelease s).pins = s.pins ∧ (commandRelease s).link = s.link ∧
    (commandRelease s).timeBase = s.timeBase ∧ (commandRelease s).intake = s.intake ∧
    (commandRelease s).channels = s.channels ∧ (commandRelease s).wheels = s.wheels ∧
    (commandRelease s).law = s.law ∧ (commandRelease s).regime = s.regime ∧
    (commandRelease s).counters = s.counters ∧ (commandRelease s).store = s.store := by
  refine ⟨?_, ?_, ?_, ?_, ?_, ?_, ?_, ?_, ?_, ?_, ?_⟩ <;> (unfold commandRelease; repeat' split) <;> simp

@[simp] theorem commandEngage_frame :
    (commandEngage s).pending = s.pending ∧ (commandEngage s).pins = s.pins ∧ (commandEngage s).link = s.link ∧
    (commandEngage s).timeBase = s.timeBase ∧ (commandEngage s).intake = s.intake ∧
    (commandEngage s).channels = s.channels ∧ (commandEngage s).wheels = s.wheels ∧ (commandEngage s).law = s.law ∧
    (commandEngage s).regime = s.regime ∧ (commandEngage s).counters = s.counters ∧
    (commandEngage s).store = s.store := by
  refine ⟨?_, ?_, ?_, ?_, ?_, ?_, ?_, ?_, ?_, ?_, ?_⟩ <;> (unfold commandEngage; repeat' split) <;> simp

@[simp] theorem seekChannel_frame (c : ChannelId) :
    (seekChannel c s).pending = s.pending ∧ (seekChannel c s).pins = s.pins ∧ (seekChannel c s).link = s.link ∧
    (seekChannel c s).timeBase = s.timeBase ∧ (seekChannel c s).intake = s.intake ∧
    (seekChannel c s).wheels = s.wheels ∧ (seekChannel c s).law = s.law ∧ (seekChannel c s).regime = s.regime ∧
    (seekChannel c s).drives = s.drives ∧ (seekChannel c s).counters = s.counters ∧
    (seekChannel c s).store = s.store := by
  refine ⟨?_, ?_, ?_, ?_, ?_, ?_, ?_, ?_, ?_, ?_, ?_⟩ <;> (unfold seekChannel; (try dsimp only); repeat' split) <;> simp

@[simp] theorem abandonSeek_frame (c : ChannelId) :
    (abandonSeek c s).pending = s.pending ∧ (abandonSeek c s).pins = s.pins ∧ (abandonSeek c s).link = s.link ∧
    (abandonSeek c s).timeBase = s.timeBase ∧ (abandonSeek c s).intake = s.intake ∧
    (abandonSeek c s).wheels = s.wheels ∧ (abandonSeek c s).law = s.law ∧ (abandonSeek c s).regime = s.regime ∧
    (abandonSeek c s).drives = s.drives ∧ (abandonSeek c s).counters = s.counters ∧
    (abandonSeek c s).store = s.store := by
  refine ⟨?_, ?_, ?_, ?_, ?_, ?_, ?_, ?_, ?_, ?_, ?_⟩ <;> (unfold abandonSeek; (try dsimp only); repeat' split) <;> simp

@[simp] theorem clearChannel_frame (c : ChannelId) :
    (clearChannel c s).pending = s.pending ∧ (clearChannel c s).pins = s.pins ∧ (clearChannel c s).link = s.link ∧
    (clearChannel c s).timeBase = s.timeBase ∧ (clearChannel c s).intake = s.intake ∧
    (clearChannel c s).wheels = s.wheels ∧ (clearChannel c s).law = s.law ∧ (clearChannel c s).regime = s.regime ∧
    (clearChannel c s).drives = s.drives ∧ (clearChannel c s).counters = s.counters ∧
    (clearChannel c s).store = s.store := by
  refine ⟨?_, ?_, ?_, ?_, ?_, ?_, ?_, ?_, ?_, ?_, ?_⟩ <;> (unfold clearChannel; (try dsimp only); repeat' split) <;> simp

@[simp] theorem unhomeChannel_frame (c : ChannelId) :
    (unhomeChannel c s).pending = s.pending ∧ (unhomeChannel c s).pins = s.pins ∧
    (unhomeChannel c s).link = s.link ∧ (unhomeChannel c s).timeBase = s.timeBase ∧
    (unhomeChannel c s).intake = s.intake ∧ (unhomeChannel c s).wheels = s.wheels ∧
    (unhomeChannel c s).law = s.law ∧ (unhomeChannel c s).regime = s.regime ∧
    (unhomeChannel c s).drives = s.drives ∧ (unhomeChannel c s).counters = s.counters ∧
    (unhomeChannel c s).store = s.store := by
  refine ⟨?_, ?_, ?_, ?_, ?_, ?_, ?_, ?_, ?_, ?_, ?_⟩ <;> (unfold unhomeChannel; (try dsimp only)) <;> simp

/-! ### The regime controller -/

@[simp] theorem changeRegime_frame (r : Regime) (c : Option AbortCause) :
    (changeRegime r c s).pending = s.pending ∧ (changeRegime r c s).pins = s.pins ∧
    (changeRegime r c s).timeBase = s.timeBase ∧ (changeRegime r c s).intake = s.intake ∧
    (changeRegime r c s).channels = s.channels ∧ (changeRegime r c s).wheels = s.wheels ∧
    (changeRegime r c s).law = s.law ∧ (changeRegime r c s).drives = s.drives ∧
    (changeRegime r c s).counters = s.counters ∧ (changeRegime r c s).store = s.store := by
  refine ⟨?_, ?_, ?_, ?_, ?_, ?_, ?_, ?_, ?_, ?_⟩ <;> (unfold changeRegime; (try dsimp only)) <;> simp

@[simp] theorem startRelease_frame :
    (startRelease s).pending = s.pending ∧ (startRelease s).pins = s.pins ∧ (startRelease s).timeBase = s.timeBase ∧
    (startRelease s).intake = s.intake ∧ (startRelease s).channels = s.channels ∧
    (startRelease s).wheels = s.wheels ∧ (startRelease s).law = s.law ∧ (startRelease s).drives = s.drives ∧
    (startRelease s).store = s.store := by
  refine ⟨?_, ?_, ?_, ?_, ?_, ?_, ?_, ?_, ?_⟩ <;> unfold startRelease <;> simp

@[simp] theorem finishCapture_frame :
    (finishCapture s).pending = s.pending ∧ (finishCapture s).pins = s.pins ∧
    (finishCapture s).timeBase = s.timeBase ∧ (finishCapture s).intake = s.intake ∧
    (finishCapture s).channels = s.channels ∧ (finishCapture s).wheels = s.wheels ∧ (finishCapture s).law = s.law ∧
    (finishCapture s).drives = s.drives ∧ (finishCapture s).counters = s.counters ∧
    (finishCapture s).store = s.store := by
  refine ⟨?_, ?_, ?_, ?_, ?_, ?_, ?_, ?_, ?_, ?_⟩ <;> unfold finishCapture <;> simp

@[simp] theorem startCapture_frame :
    (startCapture s).pending = s.pending ∧ (startCapture s).pins = s.pins ∧ (startCapture s).timeBase = s.timeBase ∧
    (startCapture s).intake = s.intake ∧ (startCapture s).channels = s.channels ∧
    (startCapture s).wheels = s.wheels ∧ (startCapture s).law = s.law ∧ (startCapture s).drives = s.drives ∧
    (startCapture s).store = s.store := by
  refine ⟨?_, ?_, ?_, ?_, ?_, ?_, ?_, ?_, ?_⟩ <;> unfold startCapture <;> simp

@[simp] theorem transientAbort_frame (c : AbortCause) (v : Nat) :
    (transientAbort c v s).pending = s.pending ∧ (transientAbort c v s).pins = s.pins ∧
    (transientAbort c v s).timeBase = s.timeBase ∧ (transientAbort c v s).intake = s.intake ∧
    (transientAbort c v s).channels = s.channels ∧ (transientAbort c v s).wheels = s.wheels ∧
    (transientAbort c v s).law = s.law ∧ (transientAbort c v s).drives = s.drives ∧
    (transientAbort c v s).store = s.store := by
  refine ⟨?_, ?_, ?_, ?_, ?_, ?_, ?_, ?_, ?_⟩ <;> (unfold transientAbort; (try dsimp only); repeat' split) <;> simp

@[simp] theorem safeTilt_frame :
    (safeTilt s).pending = s.pending ∧ (safeTilt s).pins = s.pins ∧ (safeTilt s).timeBase = s.timeBase ∧
    (safeTilt s).intake = s.intake ∧ (safeTilt s).channels = s.channels ∧ (safeTilt s).wheels = s.wheels ∧
    (safeTilt s).law = s.law ∧ (safeTilt s).store = s.store := by
  refine ⟨?_, ?_, ?_, ?_, ?_, ?_, ?_, ?_⟩ <;> (unfold safeTilt; repeat' split) <;> simp

@[simp] theorem safeSteer_frame :
    (safeSteer s).pending = s.pending ∧ (safeSteer s).pins = s.pins ∧ (safeSteer s).timeBase = s.timeBase ∧
    (safeSteer s).intake = s.intake ∧ (safeSteer s).channels = s.channels ∧ (safeSteer s).wheels = s.wheels ∧
    (safeSteer s).law = s.law ∧ (safeSteer s).regime = s.regime ∧ (safeSteer s).store = s.store := by
  refine ⟨?_, ?_, ?_, ?_, ?_, ?_, ?_, ?_, ?_⟩ <;> (unfold safeSteer; repeat' split) <;> simp

@[simp] theorem abandonHoming_frame :
    (abandonHoming s).pending = s.pending ∧ (abandonHoming s).pins = s.pins ∧ (abandonHoming s).link = s.link ∧
    (abandonHoming s).timeBase = s.timeBase ∧ (abandonHoming s).intake = s.intake ∧
    (abandonHoming s).wheels = s.wheels ∧ (abandonHoming s).law = s.law ∧ (abandonHoming s).regime = s.regime ∧
    (abandonHoming s).drives = s.drives ∧ (abandonHoming s).counters = s.counters ∧
    (abandonHoming s).store = s.store := by
  refine ⟨?_, ?_, ?_, ?_, ?_, ?_, ?_, ?_, ?_, ?_, ?_⟩ <;> (unfold abandonHoming; repeat' split) <;> simp

@[simp] theorem enterSafe_frame (c : AbortCause) (v : Nat) :
    (enterSafe c v s).pending = s.pending ∧ (enterSafe c v s).pins = s.pins ∧
    (enterSafe c v s).timeBase = s.timeBase ∧ (enterSafe c v s).intake = s.intake ∧
    (enterSafe c v s).wheels = s.wheels ∧ (enterSafe c v s).law = s.law ∧ (enterSafe c v s).store = s.store := by
  refine ⟨?_, ?_, ?_, ?_, ?_, ?_, ?_⟩ <;> (unfold enterSafe; (try dsimp only)) <;> simp

@[simp] theorem safeTiltOff_frame :
    (safeTiltOff s).pending = s.pending ∧ (safeTiltOff s).pins = s.pins ∧ (safeTiltOff s).timeBase = s.timeBase ∧
    (safeTiltOff s).intake = s.intake ∧ (safeTiltOff s).channels = s.channels ∧ (safeTiltOff s).wheels = s.wheels ∧
    (safeTiltOff s).law = s.law ∧ (safeTiltOff s).store = s.store := by
  refine ⟨?_, ?_, ?_, ?_, ?_, ?_, ?_, ?_⟩ <;> unfold safeTiltOff <;> simp

@[simp] theorem safeFaultEffect_frame (f : FaultSource) :
    (safeFaultEffect f s).pending = s.pending ∧ (safeFaultEffect f s).pins = s.pins ∧
    (safeFaultEffect f s).timeBase = s.timeBase ∧ (safeFaultEffect f s).intake = s.intake ∧
    (safeFaultEffect f s).channels = s.channels ∧ (safeFaultEffect f s).wheels = s.wheels ∧
    (safeFaultEffect f s).law = s.law ∧ (safeFaultEffect f s).store = s.store := by
  refine ⟨?_, ?_, ?_, ?_, ?_, ?_, ?_, ?_⟩ <;> (unfold safeFaultEffect; repeat' split) <;> simp

@[simp] theorem homingCheck_frame :
    (homingCheck s).pending = s.pending ∧ (homingCheck s).pins = s.pins ∧ (homingCheck s).link = s.link ∧
    (homingCheck s).timeBase = s.timeBase ∧ (homingCheck s).intake = s.intake ∧
    (homingCheck s).channels = s.channels ∧ (homingCheck s).wheels = s.wheels ∧ (homingCheck s).law = s.law ∧
    (homingCheck s).counters = s.counters ∧ (homingCheck s).store = s.store := by
  refine ⟨?_, ?_, ?_, ?_, ?_, ?_, ?_, ?_, ?_, ?_⟩ <;> (unfold homingCheck; repeat' split) <;> simp

@[simp] theorem homingChannelFault_frame (c : ChannelId) :
    (homingChannelFault c s).pending = s.pending ∧ (homingChannelFault c s).pins = s.pins ∧
    (homingChannelFault c s).timeBase = s.timeBase ∧ (homingChannelFault c s).intake = s.intake ∧
    (homingChannelFault c s).channels = s.channels ∧ (homingChannelFault c s).wheels = s.wheels ∧
    (homingChannelFault c s).law = s.law ∧ (homingChannelFault c s).store = s.store := by
  refine ⟨?_, ?_, ?_, ?_, ?_, ?_, ?_, ?_⟩ <;> (unfold homingChannelFault; repeat' split) <;> simp

@[simp] theorem actOnFault_frame (f : FaultSource) :
    (actOnFault f s).pending = s.pending ∧ (actOnFault f s).pins = s.pins ∧ (actOnFault f s).timeBase = s.timeBase ∧
    (actOnFault f s).intake = s.intake ∧ (actOnFault f s).wheels = s.wheels ∧ (actOnFault f s).law = s.law ∧
    (actOnFault f s).store = s.store := by
  refine ⟨?_, ?_, ?_, ?_, ?_, ?_, ?_⟩ <;> (unfold actOnFault; repeat' split) <;> simp

@[simp] theorem faultReport_frame (f : FaultSource) (c : FaultCause) (v : Int) :
    (faultReport f c v s).pending = s.pending ∧ (faultReport f c v s).pins = s.pins ∧
    (faultReport f c v s).timeBase = s.timeBase ∧ (faultReport f c v s).intake = s.intake ∧
    (faultReport f c v s).wheels = s.wheels ∧ (faultReport f c v s).law = s.law ∧
    (faultReport f c v s).store = s.store := by
  refine ⟨?_, ?_, ?_, ?_, ?_, ?_, ?_⟩ <;> (unfold faultReport; (try dsimp only)) <;> simp

@[simp] theorem dwellStep_frame (v : Nat) :
    (dwellStep v s).pending = s.pending ∧ (dwellStep v s).pins = s.pins ∧ (dwellStep v s).timeBase = s.timeBase ∧
    (dwellStep v s).intake = s.intake ∧ (dwellStep v s).channels = s.channels ∧ (dwellStep v s).wheels = s.wheels ∧
    (dwellStep v s).law = s.law ∧ (dwellStep v s).drives = s.drives ∧ (dwellStep v s).store = s.store := by
  refine ⟨?_, ?_, ?_, ?_, ?_, ?_, ?_, ?_, ?_⟩ <;> (unfold dwellStep; repeat' split) <;> simp

@[simp] theorem releaseStep_frame (x : Sample) :
    (releaseStep x s).pending = s.pending ∧ (releaseStep x s).pins = s.pins ∧
    (releaseStep x s).timeBase = s.timeBase ∧ (releaseStep x s).intake = s.intake ∧
    (releaseStep x s).channels = s.channels ∧ (releaseStep x s).wheels = s.wheels ∧ (releaseStep x s).law = s.law ∧
    (releaseStep x s).drives = s.drives ∧ (releaseStep x s).store = s.store := by
  refine ⟨?_, ?_, ?_, ?_, ?_, ?_, ?_, ?_, ?_⟩ <;> (unfold releaseStep; repeat' split) <;> simp

@[simp] theorem safeSampleStep_frame (p : Option Sample) (x : Sample) :
    (safeSampleStep p x s).pending = s.pending ∧ (safeSampleStep p x s).pins = s.pins ∧
    (safeSampleStep p x s).link = s.link ∧ (safeSampleStep p x s).timeBase = s.timeBase ∧
    (safeSampleStep p x s).intake = s.intake ∧ (safeSampleStep p x s).channels = s.channels ∧
    (safeSampleStep p x s).wheels = s.wheels ∧ (safeSampleStep p x s).law = s.law ∧
    (safeSampleStep p x s).drives = s.drives ∧ (safeSampleStep p x s).counters = s.counters ∧
    (safeSampleStep p x s).store = s.store := by
  refine ⟨?_, ?_, ?_, ?_, ?_, ?_, ?_, ?_, ?_, ?_, ?_⟩ <;> (unfold safeSampleStep; repeat' split) <;> simp

/-- A component that neither branch changes is not changed by a riding sample. -/
theorem ridingSample_comp {α : Type} (g : State → α) (x : Sample) (f : State → State)
    (hs : ∀ c v t, g (enterSafe c v t) = g t) (hf : ∀ t, g (f t) = g t) : g (ridingSample x f s) = g s := by
  unfold ridingSample; split
  · exact hs _ _ _
  · exact hf _

@[simp] theorem takeSample_frame (x : Sample) :
    (takeSample x s).pending = s.pending ∧ (takeSample x s).pins = s.pins ∧ (takeSample x s).timeBase = s.timeBase ∧
    (takeSample x s).intake = s.intake ∧ (takeSample x s).wheels = s.wheels ∧ (takeSample x s).law = s.law ∧
    (takeSample x s).store = s.store := by
  refine ⟨?_, ?_, ?_, ?_, ?_, ?_, ?_⟩ <;> (unfold takeSample; (try dsimp only); split) <;>
    simp [ridingSample] <;> (repeat' split) <;> simp

@[simp] theorem enterParked_frame :
    (enterParked s).pending = s.pending ∧ (enterParked s).pins = s.pins ∧ (enterParked s).timeBase = s.timeBase ∧
    (enterParked s).intake = s.intake ∧ (enterParked s).channels = s.channels ∧ (enterParked s).wheels = s.wheels ∧
    (enterParked s).law = s.law ∧ (enterParked s).store = s.store := by
  refine ⟨?_, ?_, ?_, ?_, ?_, ?_, ?_, ?_⟩ <;> unfold enterParked <;> simp

@[simp] theorem leaveInitStep_frame :
    (leaveInitStep s).pending = s.pending ∧ (leaveInitStep s).pins = s.pins ∧
    (leaveInitStep s).timeBase = s.timeBase ∧ (leaveInitStep s).intake = s.intake ∧
    (leaveInitStep s).channels = s.channels ∧ (leaveInitStep s).wheels = s.wheels ∧
    (leaveInitStep s).store = s.store := by
  refine ⟨?_, ?_, ?_, ?_, ?_, ?_, ?_⟩ <;> (unfold leaveInitStep; (try dsimp only)) <;> simp

@[simp] theorem brakeEngagedStep_frame :
    (brakeEngagedStep s).pending = s.pending ∧ (brakeEngagedStep s).pins = s.pins ∧
    (brakeEngagedStep s).timeBase = s.timeBase ∧ (brakeEngagedStep s).intake = s.intake ∧
    (brakeEngagedStep s).channels = s.channels ∧ (brakeEngagedStep s).wheels = s.wheels ∧
    (brakeEngagedStep s).law = s.law ∧ (brakeEngagedStep s).store = s.store := by
  refine ⟨?_, ?_, ?_, ?_, ?_, ?_, ?_, ?_⟩ <;> (unfold brakeEngagedStep; repeat' split) <;> simp

/-! ### The angle channels -/

@[simp] theorem faultChannel_frame (c : ChannelId) (f : FaultCause) (v : Int) :
    (faultChannel c f v s).pending = s.pending ∧ (faultChannel c f v s).pins = s.pins ∧
    (faultChannel c f v s).timeBase = s.timeBase ∧ (faultChannel c f v s).intake = s.intake ∧
    (faultChannel c f v s).wheels = s.wheels ∧ (faultChannel c f v s).law = s.law ∧
    (faultChannel c f v s).store = s.store := by
  refine ⟨?_, ?_, ?_, ?_, ?_, ?_, ?_⟩ <;> (unfold faultChannel; (try dsimp only)) <;> simp

@[simp] theorem rangeCheck_frame (c : ChannelId) :
    (rangeCheck c s).pending = s.pending ∧ (rangeCheck c s).pins = s.pins ∧ (rangeCheck c s).timeBase = s.timeBase ∧
    (rangeCheck c s).intake = s.intake ∧ (rangeCheck c s).wheels = s.wheels ∧ (rangeCheck c s).law = s.law ∧
    (rangeCheck c s).store = s.store := by
  refine ⟨?_, ?_, ?_, ?_, ?_, ?_, ?_⟩ <;> (unfold rangeCheck; repeat' split) <;> simp

@[simp] theorem homingTimeout_frame (c : ChannelId) :
    (homingTimeout c s).pending = s.pending ∧ (homingTimeout c s).pins = s.pins ∧
    (homingTimeout c s).timeBase = s.timeBase ∧ (homingTimeout c s).intake = s.intake ∧
    (homingTimeout c s).wheels = s.wheels ∧ (homingTimeout c s).law = s.law ∧ (homingTimeout c s).store = s.store := by
  refine ⟨?_, ?_, ?_, ?_, ?_, ?_, ?_⟩ <;> (unfold homingTimeout; repeat' split) <;> simp

@[simp] theorem indexFound_frame (c : ChannelId) :
    (indexFound c s).pending = s.pending ∧ (indexFound c s).pins = s.pins ∧ (indexFound c s).timeBase = s.timeBase ∧
    (indexFound c s).intake = s.intake ∧ (indexFound c s).channels = s.channels ∧
    (indexFound c s).wheels = s.wheels ∧ (indexFound c s).law = s.law ∧ (indexFound c s).store = s.store := by
  refine ⟨?_, ?_, ?_, ?_, ?_, ?_, ?_, ?_⟩ <;> (unfold indexFound; repeat' split) <;> simp

@[simp] theorem homeAtIndex_frame (c : ChannelId) :
    (homeAtIndex c s).pending = s.pending ∧ (homeAtIndex c s).pins = s.pins ∧ (homeAtIndex c s).link = s.link ∧
    (homeAtIndex c s).timeBase = s.timeBase ∧ (homeAtIndex c s).intake = s.intake ∧
    (homeAtIndex c s).wheels = s.wheels ∧ (homeAtIndex c s).law = s.law ∧ (homeAtIndex c s).regime = s.regime ∧
    (homeAtIndex c s).drives = s.drives ∧ (homeAtIndex c s).counters = s.counters ∧
    (homeAtIndex c s).store = s.store := by
  refine ⟨?_, ?_, ?_, ?_, ?_, ?_, ?_, ?_, ?_, ?_, ?_⟩ <;> (unfold homeAtIndex; (try dsimp only)) <;> simp

@[simp] theorem confirmIndex_frame (c : ChannelId) :
    (confirmIndex c s).pending = s.pending ∧ (confirmIndex c s).pins = s.pins ∧
    (confirmIndex c s).timeBase = s.timeBase ∧ (confirmIndex c s).intake = s.intake ∧
    (confirmIndex c s).wheels = s.wheels ∧ (confirmIndex c s).law = s.law ∧ (confirmIndex c s).store = s.store := by
  refine ⟨?_, ?_, ?_, ?_, ?_, ?_, ?_⟩ <;> (unfold confirmIndex; (try dsimp only); repeat' split) <;> simp

@[simp] theorem indexEvent_frame (c : ChannelId) :
    (indexEvent c s).pending = s.pending ∧ (indexEvent c s).pins = s.pins ∧ (indexEvent c s).timeBase = s.timeBase ∧
    (indexEvent c s).intake = s.intake ∧ (indexEvent c s).wheels = s.wheels ∧ (indexEvent c s).law = s.law ∧
    (indexEvent c s).store = s.store := by
  refine ⟨?_, ?_, ?_, ?_, ?_, ?_, ?_⟩ <;> (unfold indexEvent; repeat' split) <;> simp

@[simp] theorem directionTest_frame (c : ChannelId) (d : Direction) :
    (directionTest c d s).pending = s.pending ∧ (directionTest c d s).pins = s.pins ∧
    (directionTest c d s).timeBase = s.timeBase ∧ (directionTest c d s).intake = s.intake ∧
    (directionTest c d s).wheels = s.wheels ∧ (directionTest c d s).law = s.law ∧
    (directionTest c d s).regime = s.regime ∧ (directionTest c d s).drives = s.drives ∧
    (directionTest c d s).store = s.store := by
  refine ⟨?_, ?_, ?_, ?_, ?_, ?_, ?_, ?_, ?_⟩ <;> (unfold directionTest; (try dsimp only); repeat' split) <;> simp

@[simp] theorem legalStep_frame (c : ChannelId) (m : LineMove) (l : LinePair) (z : Bool) :
    (legalStep c m l z s).pending = s.pending ∧ (legalStep c m l z s).pins = s.pins ∧
    (legalStep c m l z s).timeBase = s.timeBase ∧ (legalStep c m l z s).intake = s.intake ∧
    (legalStep c m l z s).wheels = s.wheels ∧ (legalStep c m l z s).law = s.law ∧
    (legalStep c m l z s).store = s.store := by
  refine ⟨?_, ?_, ?_, ?_, ?_, ?_, ?_⟩ <;> (unfold legalStep; (try dsimp only); repeat' split) <;> simp

@[simp] theorem illegalTransition_frame (c : ChannelId) (l : LinePair) :
    (illegalTransition c l s).pending = s.pending ∧ (illegalTransition c l s).pins = s.pins ∧
    (illegalTransition c l s).timeBase = s.timeBase ∧ (illegalTransition c l s).intake = s.intake ∧
    (illegalTransition c l s).wheels = s.wheels ∧ (illegalTransition c l s).law = s.law ∧
    (illegalTransition c l s).regime = s.regime ∧ (illegalTransition c l s).drives = s.drives ∧
    (illegalTransition c l s).store = s.store := by
  refine ⟨?_, ?_, ?_, ?_, ?_, ?_, ?_, ?_, ?_⟩ <;> (unfold illegalTransition; (try dsimp only); repeat' split) <;> simp

@[simp] theorem lineStep_frame (c : ChannelId) (l : LinePair) (z : Bool) :
    (lineStep c l z s).pending = s.pending ∧ (lineStep c l z s).pins = s.pins ∧
    (lineStep c l z s).timeBase = s.timeBase ∧ (lineStep c l z s).intake = s.intake ∧
    (lineStep c l z s).wheels = s.wheels ∧ (lineStep c l z s).law = s.law ∧ (lineStep c l z s).store = s.store := by
  refine ⟨?_, ?_, ?_, ?_, ?_, ?_, ?_⟩ <;> (unfold lineStep; repeat' split) <;> simp

@[simp] theorem creepStart_frame (d : DriveId) :
    (creepStart d s).pending = s.pending ∧ (creepStart d s).pins = s.pins ∧ (creepStart d s).timeBase = s.timeBase ∧
    (creepStart d s).intake = s.intake ∧ (creepStart d s).wheels = s.wheels ∧ (creepStart d s).law = s.law ∧
    (creepStart d s).store = s.store := by
  refine ⟨?_, ?_, ?_, ?_, ?_, ?_, ?_⟩ <;> (unfold creepStart; repeat' split) <;> simp

@[simp] theorem brakeReleasedStep_frame :
    (brakeReleasedStep s).pending = s.pending ∧ (brakeReleasedStep s).pins = s.pins ∧
    (brakeReleasedStep s).timeBase = s.timeBase ∧ (brakeReleasedStep s).intake = s.intake ∧
    (brakeReleasedStep s).wheels = s.wheels ∧ (brakeReleasedStep s).law = s.law ∧
    (brakeReleasedStep s).store = s.store := by
  refine ⟨?_, ?_, ?_, ?_, ?_, ?_, ?_⟩ <;> (unfold brakeReleasedStep; repeat' split) <;> simp

@[simp] theorem clearChannels_frame :
    (clearChannels s).pending = s.pending ∧ (clearChannels s).pins = s.pins ∧ (clearChannels s).link = s.link ∧
    (clearChannels s).timeBase = s.timeBase ∧ (clearChannels s).intake = s.intake ∧
    (clearChannels s).wheels = s.wheels ∧ (clearChannels s).law = s.law ∧ (clearChannels s).regime = s.regime ∧
    (clearChannels s).drives = s.drives ∧ (clearChannels s).counters = s.counters ∧
    (clearChannels s).store = s.store := by
  refine ⟨?_, ?_, ?_, ?_, ?_, ?_, ?_, ?_, ?_, ?_, ?_⟩ <;> unfold clearChannels <;> simp

/-! ### Brake and drives -/

@[simp] theorem faultBrake_frame (f : FaultCause) :
    (faultBrake f s).pending = s.pending ∧ (faultBrake f s).pins = s.pins ∧ (faultBrake f s).timeBase = s.timeBase ∧
    (faultBrake f s).intake = s.intake ∧ (faultBrake f s).wheels = s.wheels ∧ (faultBrake f s).law = s.law ∧
    (faultBrake f s).store = s.store := by
  refine ⟨?_, ?_, ?_, ?_, ?_, ?_, ?_⟩ <;> unfold faultBrake <;> simp

@[simp] theorem brksRiseStep_frame :
    (brksRiseStep s).pending = s.pending ∧ (brksRiseStep s).timeBase = s.timeBase ∧
    (brksRiseStep s).intake = s.intake ∧ (brksRiseStep s).wheels = s.wheels ∧ (brksRiseStep s).law = s.law ∧
    (brksRiseStep s).store = s.store := by
  refine ⟨?_, ?_, ?_, ?_, ?_, ?_⟩ <;> (unfold brksRiseStep; repeat' split) <;> simp

@[simp] theorem brksFallStep_frame :
    (brksFallStep s).pending = s.pending ∧ (brksFallStep s).timeBase = s.timeBase ∧
    (brksFallStep s).intake = s.intake ∧ (brksFallStep s).wheels = s.wheels ∧ (brksFallStep s).law = s.law ∧
    (brksFallStep s).store = s.store := by
  refine ⟨?_, ?_, ?_, ?_, ?_, ?_⟩ <;> (unfold brksFallStep; repeat' split) <;> simp

@[simp] theorem brakeTimeoutStep_frame :
    (brakeTimeoutStep s).pending = s.pending ∧ (brakeTimeoutStep s).pins = s.pins ∧
    (brakeTimeoutStep s).timeBase = s.timeBase ∧ (brakeTimeoutStep s).intake = s.intake ∧
    (brakeTimeoutStep s).wheels = s.wheels ∧ (brakeTimeoutStep s).law = s.law ∧ (brakeTimeoutStep s).store = s.store := by
  refine ⟨?_, ?_, ?_, ?_, ?_, ?_, ?_⟩ <;> (unfold brakeTimeoutStep; repeat' split) <;> simp

@[simp] theorem clearBrake_frame :
    (clearBrake s).pending = s.pending ∧ (clearBrake s).pins = s.pins ∧ (clearBrake s).link = s.link ∧
    (clearBrake s).timeBase = s.timeBase ∧ (clearBrake s).intake = s.intake ∧ (clearBrake s).channels = s.channels ∧
    (clearBrake s).wheels = s.wheels ∧ (clearBrake s).law = s.law ∧ (clearBrake s).regime = s.regime ∧
    (clearBrake s).counters = s.counters ∧ (clearBrake s).store = s.store := by
  refine ⟨?_, ?_, ?_, ?_, ?_, ?_, ?_, ?_, ?_, ?_, ?_⟩ <;> (unfold clearBrake; repeat' split) <;> simp

@[simp] theorem faultDrive_frame (d : DriveId) (f : FaultCause) (v : Int) :
    (faultDrive d f v s).pending = s.pending ∧ (faultDrive d f v s).pins = s.pins ∧
    (faultDrive d f v s).timeBase = s.timeBase ∧ (faultDrive d f v s).intake = s.intake ∧
    (faultDrive d f v s).wheels = s.wheels ∧ (faultDrive d f v s).law = s.law ∧ (faultDrive d f v s).store = s.store := by
  refine ⟨?_, ?_, ?_, ?_, ?_, ?_, ?_⟩ <;> unfold faultDrive <;> simp

@[simp] theorem overloadTest_frame (d : DriveId) :
    (overloadTest d s).pending = s.pending ∧ (overloadTest d s).pins = s.pins ∧
    (overloadTest d s).timeBase = s.timeBase ∧ (overloadTest d s).intake = s.intake ∧
    (overloadTest d s).wheels = s.wheels ∧ (overloadTest d s).law = s.law ∧ (overloadTest d s).store = s.store := by
  refine ⟨?_, ?_, ?_, ?_, ?_, ?_, ?_⟩ <;> (unfold overloadTest; repeat' split) <;> simp

@[simp] theorem cutPeriod_frame (d : DriveId) :
    (cutPeriod d s).pending = s.pending ∧ (cutPeriod d s).pins = s.pins ∧ (cutPeriod d s).timeBase = s.timeBase ∧
    (cutPeriod d s).intake = s.intake ∧ (cutPeriod d s).wheels = s.wheels ∧ (cutPeriod d s).law = s.law ∧
    (cutPeriod d s).store = s.store := by
  refine ⟨?_, ?_, ?_, ?_, ?_, ?_, ?_⟩ <;> (unfold cutPeriod; (try dsimp only); repeat' split) <;> simp

@[simp] theorem driveBoundary_frame (d : DriveId) (l : Bool) :
    (driveBoundary d l s).pending = s.pending ∧ (driveBoundary d l s).pins = s.pins ∧
    (driveBoundary d l s).timeBase = s.timeBase ∧ (driveBoundary d l s).intake = s.intake ∧
    (driveBoundary d l s).wheels = s.wheels ∧ (driveBoundary d l s).law = s.law ∧
    (driveBoundary d l s).store = s.store := by
  refine ⟨?_, ?_, ?_, ?_, ?_, ?_, ?_⟩ <;> (unfold driveBoundary; (try dsimp only); repeat' split) <;> simp

@[simp] theorem saturationTest_frame (d : DriveId) (b : Bool) :
    (saturationTest d b s).pending = s.pending ∧ (saturationTest d b s).pins = s.pins ∧
    (saturationTest d b s).timeBase = s.timeBase ∧ (saturationTest d b s).intake = s.intake ∧
    (saturationTest d b s).channels = s.channels ∧ (saturationTest d b s).wheels = s.wheels ∧
    (saturationTest d b s).law = s.law ∧ (saturationTest d b s).regime = s.regime ∧
    (saturationTest d b s).store = s.store := by
  refine ⟨?_, ?_, ?_, ?_, ?_, ?_, ?_, ?_, ?_⟩ <;> (unfold saturationTest; (try dsimp only); repeat' split) <;> simp

@[simp] theorem trackingTest_frame (d : DriveId) (b : Bool) (e : Int) :
    (trackingTest d b e s).pending = s.pending ∧ (trackingTest d b e s).pins = s.pins ∧
    (trackingTest d b e s).timeBase = s.timeBase ∧ (trackingTest d b e s).intake = s.intake ∧
    (trackingTest d b e s).wheels = s.wheels ∧ (trackingTest d b e s).law = s.law ∧
    (trackingTest d b e s).store = s.store := by
  refine ⟨?_, ?_, ?_, ?_, ?_, ?_, ?_⟩ <;> (unfold trackingTest; (try dsimp only); repeat' split) <;> simp

@[simp] theorem loopComputation_frame (d : DriveId) (a : Int) :
    (loopComputation d a s).pending = s.pending ∧ (loopComputation d a s).pins = s.pins ∧
    (loopComputation d a s).timeBase = s.timeBase ∧ (loopComputation d a s).intake = s.intake ∧
    (loopComputation d a s).wheels = s.wheels ∧ (loopComputation d a s).law = s.law ∧
    (loopComputation d a s).store = s.store := by
  refine ⟨?_, ?_, ?_, ?_, ?_, ?_, ?_⟩ <;> (unfold loopComputation; (try dsimp only)) <;> simp

@[simp] theorem absentAngleStep_frame (d : DriveId) :
    (absentAngleStep d s).pending = s.pending ∧ (absentAngleStep d s).pins = s.pins ∧
    (absentAngleStep d s).timeBase = s.timeBase ∧ (absentAngleStep d s).intake = s.intake ∧
    (absentAngleStep d s).channels = s.channels ∧ (absentAngleStep d s).wheels = s.wheels ∧
    (absentAngleStep d s).law = s.law ∧ (absentAngleStep d s).regime = s.regime ∧
    (absentAngleStep d s).store = s.store := by
  refine ⟨?_, ?_, ?_, ?_, ?_, ?_, ?_, ?_, ?_⟩ <;> (unfold absentAngleStep; (try dsimp only)) <;> simp

@[simp] theorem driveLoop_frame (d : DriveId) :
    (driveLoop d s).pending = s.pending ∧ (driveLoop d s).pins = s.pins ∧ (driveLoop d s).timeBase = s.timeBase ∧
    (driveLoop d s).intake = s.intake ∧ (driveLoop d s).wheels = s.wheels ∧ (driveLoop d s).law = s.law ∧
    (driveLoop d s).store = s.store := by
  refine ⟨?_, ?_, ?_, ?_, ?_, ?_, ?_⟩ <;> (unfold driveLoop; (try dsimp only); repeat' split) <;> simp

@[simp] theorem creepTimeoutTaken_frame (d : DriveId) :
    (creepTimeoutTaken d s).pending = s.pending ∧ (creepTimeoutTaken d s).pins = s.pins ∧
    (creepTimeoutTaken d s).timeBase = s.timeBase ∧ (creepTimeoutTaken d s).intake = s.intake ∧
    (creepTimeoutTaken d s).wheels = s.wheels ∧ (creepTimeoutTaken d s).law = s.law ∧
    (creepTimeoutTaken d s).store = s.store := by
  refine ⟨?_, ?_, ?_, ?_, ?_, ?_, ?_⟩ <;> (unfold creepTimeoutTaken; repeat' split) <;> simp

@[simp] theorem clearDrive_frame (d : DriveId) :
    (clearDrive d s).pending = s.pending ∧ (clearDrive d s).pins = s.pins ∧ (clearDrive d s).link = s.link ∧
    (clearDrive d s).timeBase = s.timeBase ∧ (clearDrive d s).intake = s.intake ∧
    (clearDrive d s).channels = s.channels ∧ (clearDrive d s).wheels = s.wheels ∧ (clearDrive d s).law = s.law ∧
    (clearDrive d s).regime = s.regime ∧ (clearDrive d s).counters = s.counters ∧ (clearDrive d s).store = s.store := by
  refine ⟨?_, ?_, ?_, ?_, ?_, ?_, ?_, ?_, ?_, ?_, ?_⟩ <;> (unfold clearDrive; repeat' split) <;> simp

/-! ### The wheel unit -/

@[simp] theorem changeSlip_frame (v : Bool) :
    (changeSlip v s).pending = s.pending ∧ (changeSlip v s).pins = s.pins ∧ (changeSlip v s).timeBase = s.timeBase ∧
    (changeSlip v s).intake = s.intake ∧ (changeSlip v s).channels = s.channels ∧ (changeSlip v s).law = s.law ∧
    (changeSlip v s).regime = s.regime ∧ (changeSlip v s).drives = s.drives ∧ (changeSlip v s).store = s.store := by
  refine ⟨?_, ?_, ?_, ?_, ?_, ?_, ?_, ?_, ?_⟩ <;> (unfold changeSlip; (try dsimp only); repeat' split) <;> simp

@[simp] theorem allStoppedStep_frame :
    (allStoppedStep s).pending = s.pending ∧ (allStoppedStep s).pins = s.pins ∧
    (allStoppedStep s).timeBase = s.timeBase ∧ (allStoppedStep s).intake = s.intake ∧
    (allStoppedStep s).channels = s.channels ∧ (allStoppedStep s).law = s.law ∧
    (allStoppedStep s).regime = s.regime ∧ (allStoppedStep s).drives = s.drives ∧ (allStoppedStep s).store = s.store := by
  refine ⟨?_, ?_, ?_, ?_, ?_, ?_, ?_, ?_, ?_⟩ <;> (unfold allStoppedStep; repeat' split) <;> simp

@[simp] theorem makeInvalid_frame (w : WheelId) :
    (makeInvalid w s).pending = s.pending ∧ (makeInvalid w s).pins = s.pins ∧
    (makeInvalid w s).timeBase = s.timeBase ∧ (makeInvalid w s).intake = s.intake ∧ (makeInvalid w s).law = s.law ∧
    (makeInvalid w s).store = s.store := by
  refine ⟨?_, ?_, ?_, ?_, ?_, ?_⟩ <;> (unfold makeInvalid; (try dsimp only)) <;> simp

@[simp] theorem invalidTest_frame (w : WheelId) :
    (invalidTest w s).pending = s.pending ∧ (invalidTest w s).pins = s.pins ∧
    (invalidTest w s).timeBase = s.timeBase ∧ (invalidTest w s).intake = s.intake ∧ (invalidTest w s).law = s.law ∧
    (invalidTest w s).store = s.store := by
  refine ⟨?_, ?_, ?_, ?_, ?_, ?_⟩ <;> (unfold invalidTest; repeat' split) <;> simp

@[simp] theorem evaluate_frame :
    (evaluate s).pending = s.pending ∧ (evaluate s).pins = s.pins ∧ (evaluate s).timeBase = s.timeBase ∧
    (evaluate s).intake = s.intake ∧ (evaluate s).channels = s.channels ∧ (evaluate s).law = s.law ∧
    (evaluate s).regime = s.regime ∧ (evaluate s).drives = s.drives ∧ (evaluate s).store = s.store := by
  refine ⟨?_, ?_, ?_, ?_, ?_, ?_, ?_, ?_, ?_⟩ <;> (unfold evaluate; (try dsimp only)) <;> simp

@[simp] theorem followOn_frame (w : WheelId) :
    (followOn w s).pending = s.pending ∧ (followOn w s).pins = s.pins ∧ (followOn w s).timeBase = s.timeBase ∧
    (followOn w s).intake = s.intake ∧ (followOn w s).law = s.law ∧ (followOn w s).store = s.store := by
  refine ⟨?_, ?_, ?_, ?_, ?_, ?_⟩ <;> (unfold followOn; (try dsimp only); repeat' split) <;> simp

@[simp] theorem firstEdge_frame (w : WheelId) :
    (firstEdge w s).pending = s.pending ∧ (firstEdge w s).pins = s.pins ∧ (firstEdge w s).link = s.link ∧
    (firstEdge w s).timeBase = s.timeBase ∧ (firstEdge w s).intake = s.intake ∧
    (firstEdge w s).channels = s.channels ∧ (firstEdge w s).law = s.law ∧ (firstEdge w s).regime = s.regime ∧
    (firstEdge w s).drives = s.drives ∧ (firstEdge w s).counters = s.counters ∧ (firstEdge w s).store = s.store := by
  refine ⟨?_, ?_, ?_, ?_, ?_, ?_, ?_, ?_, ?_, ?_, ?_⟩ <;> unfold firstEdge <;> simp

@[simp] theorem laterEdge_frame (w : WheelId) :
    (laterEdge w s).pending = s.pending ∧ (laterEdge w s).pins = s.pins ∧ (laterEdge w s).link = s.link ∧
    (laterEdge w s).timeBase = s.timeBase ∧ (laterEdge w s).intake = s.intake ∧
    (laterEdge w s).channels = s.channels ∧ (laterEdge w s).law = s.law ∧ (laterEdge w s).regime = s.regime ∧
    (laterEdge w s).drives = s.drives ∧ (laterEdge w s).counters = s.counters ∧ (laterEdge w s).store = s.store := by
  refine ⟨?_, ?_, ?_, ?_, ?_, ?_, ?_, ?_, ?_, ?_, ?_⟩ <;> (unfold laterEdge; (try dsimp only)) <;> simp

@[simp] theorem wheelEdgeStep_frame (w : WheelId) :
    (wheelEdgeStep w s).pending = s.pending ∧ (wheelEdgeStep w s).pins = s.pins ∧
    (wheelEdgeStep w s).timeBase = s.timeBase ∧ (wheelEdgeStep w s).intake = s.intake ∧
    (wheelEdgeStep w s).law = s.law ∧ (wheelEdgeStep w s).store = s.store := by
  refine ⟨?_, ?_, ?_, ?_, ?_, ?_⟩ <;> (unfold wheelEdgeStep; repeat' split) <;> simp

@[simp] theorem stopWheel_frame (w : WheelId) :
    (stopWheel w s).pending = s.pending ∧ (stopWheel w s).pins = s.pins ∧ (stopWheel w s).timeBase = s.timeBase ∧
    (stopWheel w s).intake = s.intake ∧ (stopWheel w s).channels = s.channels ∧ (stopWheel w s).law = s.law ∧
    (stopWheel w s).regime = s.regime ∧ (stopWheel w s).drives = s.drives ∧ (stopWheel w s).store = s.store := by
  refine ⟨?_, ?_, ?_, ?_, ?_, ?_, ?_, ?_, ?_⟩ <;> (unfold stopWheel; (try dsimp only)) <;> simp

@[simp] theorem clearWheel_frame (w : WheelId) :
    (clearWheel w s).pending = s.pending ∧ (clearWheel w s).pins = s.pins ∧ (clearWheel w s).link = s.link ∧
    (clearWheel w s).timeBase = s.timeBase ∧ (clearWheel w s).intake = s.intake ∧
    (clearWheel w s).channels = s.channels ∧ (clearWheel w s).law = s.law ∧ (clearWheel w s).regime = s.regime ∧
    (clearWheel w s).drives = s.drives ∧ (clearWheel w s).counters = s.counters ∧ (clearWheel w s).store = s.store := by
  refine ⟨?_, ?_, ?_, ?_, ?_, ?_, ?_, ?_, ?_, ?_, ?_⟩ <;> (unfold clearWheel; repeat' split) <;> simp

@[simp] theorem clearWheels_frame :
    (clearWheels s).pending = s.pending ∧ (clearWheels s).pins = s.pins ∧ (clearWheels s).timeBase = s.timeBase ∧
    (clearWheels s).intake = s.intake ∧ (clearWheels s).channels = s.channels ∧ (clearWheels s).law = s.law ∧
    (clearWheels s).regime = s.regime ∧ (clearWheels s).drives = s.drives ∧ (clearWheels s).store = s.store := by
  refine ⟨?_, ?_, ?_, ?_, ?_, ?_, ?_, ?_, ?_⟩ <;> unfold clearWheels <;> simp

/-! ### Time base and intake -/

@[simp] theorem noteSync_frame (p : Sync) :
    (noteSync p s).pending = s.pending ∧ (noteSync p s).pins = s.pins ∧ (noteSync p s).timeBase = s.timeBase ∧
    (noteSync p s).intake = s.intake ∧ (noteSync p s).channels = s.channels ∧ (noteSync p s).wheels = s.wheels ∧
    (noteSync p s).law = s.law ∧ (noteSync p s).regime = s.regime ∧ (noteSync p s).drives = s.drives ∧
    (noteSync p s).counters = s.counters ∧ (noteSync p s).store = s.store := by
  refine ⟨?_, ?_, ?_, ?_, ?_, ?_, ?_, ?_, ?_, ?_, ?_⟩ <;> (unfold noteSync; repeat' split) <;> simp

@[simp] theorem changeTimeBase_frame (t : TimeBase) :
    (changeTimeBase t s).pending = s.pending ∧ (changeTimeBase t s).pins = s.pins ∧
    (changeTimeBase t s).intake = s.intake ∧ (changeTimeBase t s).channels = s.channels ∧
    (changeTimeBase t s).wheels = s.wheels ∧ (changeTimeBase t s).law = s.law ∧
    (changeTimeBase t s).regime = s.regime ∧ (changeTimeBase t s).drives = s.drives ∧
    (changeTimeBase t s).counters = s.counters ∧ (changeTimeBase t s).store = s.store := by
  refine ⟨?_, ?_, ?_, ?_, ?_, ?_, ?_, ?_, ?_, ?_⟩ <;> unfold changeTimeBase <;> simp

@[simp] theorem enterUnsynced_frame :
    (enterUnsynced s).pending = s.pending ∧ (enterUnsynced s).pins = s.pins ∧ (enterUnsynced s).intake = s.intake ∧
    (enterUnsynced s).channels = s.channels ∧ (enterUnsynced s).wheels = s.wheels ∧ (enterUnsynced s).law = s.law ∧
    (enterUnsynced s).regime = s.regime ∧ (enterUnsynced s).drives = s.drives ∧
    (enterUnsynced s).counters = s.counters ∧ (enterUnsynced s).store = s.store := by
  refine ⟨?_, ?_, ?_, ?_, ?_, ?_, ?_, ?_, ?_, ?_⟩ <;> (unfold enterUnsynced; (try dsimp only)) <;> simp

@[simp] theorem startGrid_frame :
    (startGrid s).pending = s.pending ∧ (startGrid s).pins = s.pins ∧ (startGrid s).intake = s.intake ∧
    (startGrid s).channels = s.channels ∧ (startGrid s).wheels = s.wheels ∧ (startGrid s).law = s.law ∧
    (startGrid s).regime = s.regime ∧ (startGrid s).drives = s.drives ∧ (startGrid s).counters = s.counters ∧
    (startGrid s).store = s.store := by
  refine ⟨?_, ?_, ?_, ?_, ?_, ?_, ?_, ?_, ?_, ?_⟩ <;> (unfold startGrid; (try dsimp only)) <;> simp

@[simp] theorem strobeStep_frame :
    (strobeStep s).pending = s.pending ∧ (strobeStep s).pins = s.pins ∧ (strobeStep s).intake = s.intake ∧
    (strobeStep s).channels = s.channels ∧ (strobeStep s).wheels = s.wheels ∧ (strobeStep s).law = s.law ∧
    (strobeStep s).regime = s.regime ∧ (strobeStep s).drives = s.drives ∧ (strobeStep s).store = s.store := by
  refine ⟨?_, ?_, ?_, ?_, ?_, ?_, ?_, ?_, ?_⟩ <;> (unfold strobeStep; repeat' split) <;> simp

@[simp] theorem missedStep_frame :
    (missedStep s).pending = s.pending ∧ (missedStep s).pins = s.pins ∧ (missedStep s).intake = s.intake ∧
    (missedStep s).channels = s.channels ∧ (missedStep s).wheels = s.wheels ∧ (missedStep s).law = s.law ∧
    (missedStep s).regime = s.regime ∧ (missedStep s).drives = s.drives ∧ (missedStep s).counters = s.counters ∧
    (missedStep s).store = s.store := by
  refine ⟨?_, ?_, ?_, ?_, ?_, ?_, ?_, ?_, ?_, ?_⟩ <;> (unfold missedStep; (try dsimp only); repeat' split) <;> simp

@[simp] theorem gridParameterChanged_frame :
    (gridParameterChanged s).pending = s.pending ∧ (gridParameterChanged s).pins = s.pins ∧
    (gridParameterChanged s).intake = s.intake ∧ (gridParameterChanged s).channels = s.channels ∧
    (gridParameterChanged s).wheels = s.wheels ∧ (gridParameterChanged s).law = s.law ∧
    (gridParameterChanged s).regime = s.regime ∧ (gridParameterChanged s).drives = s.drives ∧
    (gridParameterChanged s).counters = s.counters ∧ (gridParameterChanged s).store = s.store := by
  refine ⟨?_, ?_, ?_, ?_, ?_, ?_, ?_, ?_, ?_, ?_⟩ <;> (unfold gridParameterChanged; repeat' split) <;> simp

@[simp] theorem changeIntake_frame (i : Intake) :
    (changeIntake i s).pending = s.pending ∧ (changeIntake i s).pins = s.pins ∧
    (changeIntake i s).timeBase = s.timeBase ∧ (changeIntake i s).channels = s.channels ∧
    (changeIntake i s).wheels = s.wheels ∧ (changeIntake i s).law = s.law ∧ (changeIntake i s).regime = s.regime ∧
    (changeIntake i s).drives = s.drives ∧ (changeIntake i s).store = s.store := by
  refine ⟨?_, ?_, ?_, ?_, ?_, ?_, ?_, ?_, ?_⟩ <;> (unfold changeIntake; (try dsimp only); repeat' split) <;> simp

@[simp] theorem freshnessStep_frame (k : RollKind) :
    (freshnessStep k s).pending = s.pending ∧ (freshnessStep k s).pins = s.pins ∧
    (freshnessStep k s).timeBase = s.timeBase ∧ (freshnessStep k s).channels = s.channels ∧
    (freshnessStep k s).wheels = s.wheels ∧ (freshnessStep k s).law = s.law ∧
    (freshnessStep k s).regime = s.regime ∧ (freshnessStep k s).drives = s.drives ∧
    (freshnessStep k s).store = s.store := by
  refine ⟨?_, ?_, ?_, ?_, ?_, ?_, ?_, ?_, ?_⟩ <;> (unfold freshnessStep; (try dsimp only)) <;> simp

@[simp] theorem camberStep_frame (v : Int) :
    (camberStep v s).pending = s.pending ∧ (camberStep v s).pins = s.pins ∧ (camberStep v s).link = s.link ∧
    (camberStep v s).timeBase = s.timeBase ∧ (camberStep v s).channels = s.channels ∧
    (camberStep v s).wheels = s.wheels ∧ (camberStep v s).law = s.law ∧ (camberStep v s).regime = s.regime ∧
    (camberStep v s).drives = s.drives ∧ (camberStep v s).counters = s.counters ∧ (camberStep v s).store = s.store := by
  refine ⟨?_, ?_, ?_, ?_, ?_, ?_, ?_, ?_, ?_, ?_, ?_⟩ <;> (unfold camberStep; (try dsimp only); repeat' split) <;> simp

@[simp] theorem changeYawSlip_frame (v : Bool) :
    (changeYawSlip v s).pending = s.pending ∧ (changeYawSlip v s).pins = s.pins ∧
    (changeYawSlip v s).timeBase = s.timeBase ∧ (changeYawSlip v s).channels = s.channels ∧
    (changeYawSlip v s).wheels = s.wheels ∧ (changeYawSlip v s).law = s.law ∧
    (changeYawSlip v s).regime = s.regime ∧ (changeYawSlip v s).drives = s.drives ∧
    (changeYawSlip v s).store = s.store := by
  refine ⟨?_, ?_, ?_, ?_, ?_, ?_, ?_, ?_, ?_⟩ <;> (unfold changeYawSlip; (try dsimp only); repeat' split) <;> simp

@[simp] theorem yawVerdict_frame (m : Bool) :
    (yawVerdict m s).pending = s.pending ∧ (yawVerdict m s).pins = s.pins ∧ (yawVerdict m s).timeBase = s.timeBase ∧
    (yawVerdict m s).channels = s.channels ∧ (yawVerdict m s).wheels = s.wheels ∧ (yawVerdict m s).law = s.law ∧
    (yawVerdict m s).regime = s.regime ∧ (yawVerdict m s).drives = s.drives ∧ (yawVerdict m s).store = s.store := by
  refine ⟨?_, ?_, ?_, ?_, ?_, ?_, ?_, ?_, ?_⟩ <;> (unfold yawVerdict; (try dsimp only); repeat' split) <;> simp

@[simp] theorem yawCheck_frame (v : Int) :
    (yawCheck v s).pending = s.pending ∧ (yawCheck v s).pins = s.pins ∧ (yawCheck v s).timeBase = s.timeBase ∧
    (yawCheck v s).channels = s.channels ∧ (yawCheck v s).wheels = s.wheels ∧ (yawCheck v s).law = s.law ∧
    (yawCheck v s).regime = s.regime ∧ (yawCheck v s).drives = s.drives ∧ (yawCheck v s).store = s.store := by
  refine ⟨?_, ?_, ?_, ?_, ?_, ?_, ?_, ?_, ?_⟩ <;> (unfold yawCheck; repeat' split) <;> simp

@[simp] theorem takeRoll_frame (k : RollKind) (v : Option Int) :
    (takeRoll k v s).pending = s.pending ∧ (takeRoll k v s).pins = s.pins ∧ (takeRoll k v s).timeBase = s.timeBase ∧
    (takeRoll k v s).channels = s.channels ∧ (takeRoll k v s).wheels = s.wheels ∧ (takeRoll k v s).law = s.law ∧
    (takeRoll k v s).regime = s.regime ∧ (takeRoll k v s).drives = s.drives ∧ (takeRoll k v s).store = s.store := by
  refine ⟨?_, ?_, ?_, ?_, ?_, ?_, ?_, ?_, ?_⟩ <;> (unfold takeRoll; repeat' split) <;> simp

@[simp] theorem takeYaw_frame (v : Option Int) :
    (takeYaw v s).pending = s.pending ∧ (takeYaw v s).pins = s.pins ∧ (takeYaw v s).timeBase = s.timeBase ∧
    (takeYaw v s).channels = s.channels ∧ (takeYaw v s).wheels = s.wheels ∧ (takeYaw v s).law = s.law ∧
    (takeYaw v s).regime = s.regime ∧ (takeYaw v s).drives = s.drives ∧ (takeYaw v s).store = s.store := by
  refine ⟨?_, ?_, ?_, ?_, ?_, ?_, ?_, ?_, ?_⟩ <;> (unfold takeYaw; repeat' split) <;> simp

@[simp] theorem takeAccepted_frame (k : RollKind) (r : Report) :
    (takeAccepted k r s).pending = s.pending ∧ (takeAccepted k r s).pins = s.pins ∧
    (takeAccepted k r s).timeBase = s.timeBase ∧ (takeAccepted k r s).channels = s.channels ∧
    (takeAccepted k r s).wheels = s.wheels ∧ (takeAccepted k r s).law = s.law ∧
    (takeAccepted k r s).regime = s.regime ∧ (takeAccepted k r s).drives = s.drives ∧
    (takeAccepted k r s).store = s.store := by
  refine ⟨?_, ?_, ?_, ?_, ?_, ?_, ?_, ?_, ?_⟩ <;> unfold takeAccepted <;> simp

@[simp] theorem takeMotion_frame (p : List Byte) :
    (takeMotion p s).pending = s.pending ∧ (takeMotion p s).pins = s.pins ∧ (takeMotion p s).timeBase = s.timeBase ∧
    (takeMotion p s).channels = s.channels ∧ (takeMotion p s).wheels = s.wheels ∧ (takeMotion p s).law = s.law ∧
    (takeMotion p s).regime = s.regime ∧ (takeMotion p s).drives = s.drives ∧ (takeMotion p s).store = s.store := by
  refine ⟨?_, ?_, ?_, ?_, ?_, ?_, ?_, ?_, ?_⟩ <;> (unfold takeMotion; repeat' split) <;> simp

@[simp] theorem loseFreshness_frame :
    (loseFreshness s).pending = s.pending ∧ (loseFreshness s).pins = s.pins ∧
    (loseFreshness s).timeBase = s.timeBase ∧ (loseFreshness s).channels = s.channels ∧
    (loseFreshness s).wheels = s.wheels ∧ (loseFreshness s).law = s.law ∧ (loseFreshness s).regime = s.regime ∧
    (loseFreshness s).drives = s.drives ∧ (loseFreshness s).store = s.store := by
  refine ⟨?_, ?_, ?_, ?_, ?_, ?_, ?_, ?_, ?_⟩ <;> (unfold loseFreshness; (try dsimp only)) <;> simp

/-! ### The law engine, the counter unit and the store -/

@[simp] theorem reportClamps_frame (b : Bool) (f : LeanFlags) (g : SteerFlags) :
    (reportClamps b f g s).pending = s.pending ∧ (reportClamps b f g s).pins = s.pins ∧
    (reportClamps b f g s).timeBase = s.timeBase ∧ (reportClamps b f g s).intake = s.intake ∧
    (reportClamps b f g s).channels = s.channels ∧ (reportClamps b f g s).wheels = s.wheels ∧
    (reportClamps b f g s).law = s.law ∧ (reportClamps b f g s).regime = s.regime ∧
    (reportClamps b f g s).drives = s.drives ∧ (reportClamps b f g s).store = s.store := by
  refine ⟨?_, ?_, ?_, ?_, ?_, ?_, ?_, ?_, ?_, ?_⟩ <;> (unfold reportClamps; (try dsimp only); repeat' split) <;> simp

@[simp] theorem lawStep_frame :
    (lawStep s).pending = s.pending ∧ (lawStep s).pins = s.pins ∧ (lawStep s).timeBase = s.timeBase ∧
    (lawStep s).intake = s.intake ∧ (lawStep s).wheels = s.wheels ∧ (lawStep s).store = s.store := by
  refine ⟨?_, ?_, ?_, ?_, ?_, ?_⟩ <;> (unfold lawStep; (try dsimp only)) <;> simp

@[simp] theorem takeCounterSet_frame (c e m o : Byte) (t : Word32) (a : Byte) :
    (takeCounterSet c e m o t a s).pending = s.pending ∧ (takeCounterSet c e m o t a s).pins = s.pins ∧
    (takeCounterSet c e m o t a s).timeBase = s.timeBase ∧ (takeCounterSet c e m o t a s).intake = s.intake ∧
    (takeCounterSet c e m o t a s).channels = s.channels ∧ (takeCounterSet c e m o t a s).wheels = s.wheels ∧
    (takeCounterSet c e m o t a s).law = s.law ∧ (takeCounterSet c e m o t a s).regime = s.regime ∧
    (takeCounterSet c e m o t a s).drives = s.drives ∧ (takeCounterSet c e m o t a s).store = s.store := by
  refine ⟨?_, ?_, ?_, ?_, ?_, ?_, ?_, ?_, ?_, ?_⟩ <;> (unfold takeCounterSet; repeat' split) <;> simp

@[simp] theorem takeCounterRead_frame :
    (takeCounterRead s).pending = s.pending ∧ (takeCounterRead s).pins = s.pins ∧
    (takeCounterRead s).timeBase = s.timeBase ∧ (takeCounterRead s).intake = s.intake ∧
    (takeCounterRead s).channels = s.channels ∧ (takeCounterRead s).wheels = s.wheels ∧
    (takeCounterRead s).law = s.law ∧ (takeCounterRead s).regime = s.regime ∧
    (takeCounterRead s).drives = s.drives ∧ (takeCounterRead s).counters = s.counters ∧
    (takeCounterRead s).store = s.store := by
  refine ⟨?_, ?_, ?_, ?_, ?_, ?_, ?_, ?_, ?_, ?_, ?_⟩ <;> unfold takeCounterRead <;> simp

@[simp] theorem clearNamed_frame (m : Byte) :
    (clearNamed m s).pending = s.pending ∧ (clearNamed m s).pins = s.pins ∧ (clearNamed m s).link = s.link ∧
    (clearNamed m s).timeBase = s.timeBase ∧ (clearNamed m s).intake = s.intake ∧
    (clearNamed m s).channels = s.channels ∧ (clearNamed m s).wheels = s.wheels ∧ (clearNamed m s).law = s.law ∧
    (clearNamed m s).regime = s.regime ∧ (clearNamed m s).drives = s.drives ∧ (clearNamed m s).store = s.store := by
  refine ⟨?_, ?_, ?_, ?_, ?_, ?_, ?_, ?_, ?_, ?_, ?_⟩ <;> (unfold clearNamed; (try dsimp only)) <;> simp

@[simp] theorem takeCounterClear_frame (m : Byte) :
    (takeCounterClear m s).pending = s.pending ∧ (takeCounterClear m s).pins = s.pins ∧
    (takeCounterClear m s).timeBase = s.timeBase ∧ (takeCounterClear m s).intake = s.intake ∧
    (takeCounterClear m s).channels = s.channels ∧ (takeCounterClear m s).wheels = s.wheels ∧
    (takeCounterClear m s).law = s.law ∧ (takeCounterClear m s).regime = s.regime ∧
    (takeCounterClear m s).drives = s.drives ∧ (takeCounterClear m s).store = s.store := by
  refine ⟨?_, ?_, ?_, ?_, ?_, ?_, ?_, ?_, ?_, ?_⟩ <;> unfold takeCounterClear <;> simp

/-- A component that an effect never changes is not changed when the effect is conditional. -/
theorem effectIf_comp {α : Type} (g : State → α) (b : Bool) (f : State → State) (hf : ∀ t, g (f t) = g t) :
    g (effectIf b f s) = g s := by
  unfold effectIf; split
  · exact hf _
  · rfl

@[simp] theorem passChanges_frame (o n : Params) (w : Option Param) :
    (passChanges o n w s).pending = s.pending ∧ (passChanges o n w s).pins = s.pins ∧
    (passChanges o n w s).wheels = s.wheels ∧ (passChanges o n w s).store = s.store := by
  refine ⟨?_, ?_, ?_, ?_⟩ <;>
    simp [passChanges, effectIf_comp (g := State.pending), effectIf_comp (g := State.pins), effectIf_comp (g := State.wheels), effectIf_comp (g := State.store)]

@[simp] theorem replaceWorking_frame (c : Calibration) (w : Option Param) :
    (replaceWorking c w s).pending = s.pending ∧ (replaceWorking c w s).pins = s.pins ∧
    (replaceWorking c w s).wheels = s.wheels := by
  refine ⟨?_, ?_, ?_⟩ <;> unfold replaceWorking <;> simp

@[simp] theorem takeParamSet_frame (i : Byte) (v : Half) :
    (takeParamSet i v s).pending = s.pending ∧ (takeParamSet i v s).pins = s.pins ∧
    (takeParamSet i v s).wheels = s.wheels := by
  refine ⟨?_, ?_, ?_⟩ <;> (unfold takeParamSet; (try dsimp only); repeat' split) <;> simp

@[simp] theorem takeParamGet_frame (i : Byte) :
    (takeParamGet i s).pending = s.pending ∧ (takeParamGet i s).pins = s.pins ∧
    (takeParamGet i s).timeBase = s.timeBase ∧ (takeParamGet i s).intake = s.intake ∧
    (takeParamGet i s).channels = s.channels ∧ (takeParamGet i s).wheels = s.wheels ∧
    (takeParamGet i s).law = s.law ∧ (takeParamGet i s).regime = s.regime ∧ (takeParamGet i s).drives = s.drives ∧
    (takeParamGet i s).counters = s.counters ∧ (takeParamGet i s).store = s.store := by
  refine ⟨?_, ?_, ?_, ?_, ?_, ?_, ?_, ?_, ?_, ?_, ?_⟩ <;> (unfold takeParamGet; repeat' split) <;> simp

@[simp] theorem takeMapSet_frame (p : Byte) (a b c d : Half) :
    (takeMapSet p a b c d s).pending = s.pending ∧ (takeMapSet p a b c d s).pins = s.pins ∧
    (takeMapSet p a b c d s).timeBase = s.timeBase ∧ (takeMapSet p a b c d s).intake = s.intake ∧
    (takeMapSet p a b c d s).channels = s.channels ∧ (takeMapSet p a b c d s).wheels = s.wheels ∧
    (takeMapSet p a b c d s).law = s.law ∧ (takeMapSet p a b c d s).regime = s.regime ∧
    (takeMapSet p a b c d s).drives = s.drives ∧ (takeMapSet p a b c d s).counters = s.counters := by
  refine ⟨?_, ?_, ?_, ?_, ?_, ?_, ?_, ?_, ?_, ?_⟩ <;> (unfold takeMapSet; (try dsimp only); repeat' split) <;> simp

@[simp] theorem takeMapGet_frame (p : Byte) :
    (takeMapGet p s).pending = s.pending ∧ (takeMapGet p s).pins = s.pins ∧ (takeMapGet p s).timeBase = s.timeBase ∧
    (takeMapGet p s).intake = s.intake ∧ (takeMapGet p s).channels = s.channels ∧
    (takeMapGet p s).wheels = s.wheels ∧ (takeMapGet p s).law = s.law ∧ (takeMapGet p s).regime = s.regime ∧
    (takeMapGet p s).drives = s.drives ∧ (takeMapGet p s).counters = s.counters ∧ (takeMapGet p s).store = s.store := by
  refine ⟨?_, ?_, ?_, ?_, ?_, ?_, ?_, ?_, ?_, ?_, ?_⟩ <;> (unfold takeMapGet; repeat' split) <;> simp

@[simp] theorem takeSave_frame :
    (takeSave s).pending = s.pending ∧ (takeSave s).pins = s.pins ∧ (takeSave s).timeBase = s.timeBase ∧
    (takeSave s).intake = s.intake ∧ (takeSave s).channels = s.channels ∧ (takeSave s).wheels = s.wheels ∧
    (takeSave s).law = s.law ∧ (takeSave s).regime = s.regime ∧ (takeSave s).drives = s.drives ∧
    (takeSave s).counters = s.counters := by
  refine ⟨?_, ?_, ?_, ?_, ?_, ?_, ?_, ?_, ?_, ?_⟩ <;> (unfold takeSave; (try dsimp only); repeat' split) <;> simp

@[simp] theorem takeLoad_frame :
    (takeLoad s).pending = s.pending ∧ (takeLoad s).pins = s.pins ∧ (takeLoad s).timeBase = s.timeBase ∧
    (takeLoad s).intake = s.intake ∧ (takeLoad s).channels = s.channels ∧ (takeLoad s).wheels = s.wheels ∧
    (takeLoad s).law = s.law ∧ (takeLoad s).regime = s.regime ∧ (takeLoad s).drives = s.drives ∧
    (takeLoad s).counters = s.counters := by
  refine ⟨?_, ?_, ?_, ?_, ?_, ?_, ?_, ?_, ?_, ?_⟩ <;> (unfold takeLoad; (try dsimp only); repeat' split) <;> simp

@[simp] theorem endOperation_frame (r : StoreResult) :
    (endOperation r s).pending = s.pending ∧ (endOperation r s).pins = s.pins ∧
    (endOperation r s).timeBase = s.timeBase ∧ (endOperation r s).intake = s.intake ∧
    (endOperation r s).channels = s.channels ∧ (endOperation r s).wheels = s.wheels ∧
    (endOperation r s).law = s.law ∧ (endOperation r s).regime = s.regime ∧ (endOperation r s).drives = s.drives ∧
    (endOperation r s).counters = s.counters := by
  refine ⟨?_, ?_, ?_, ?_, ?_, ?_, ?_, ?_, ?_, ?_⟩ <;> (unfold endOperation; (try dsimp only)) <;> simp

@[simp] theorem completeLoad_frame (r : StoreResult) (c : Option Calibration) :
    (completeLoad r c s).pending = s.pending ∧ (completeLoad r c s).pins = s.pins ∧
    (completeLoad r c s).wheels = s.wheels := by
  refine ⟨?_, ?_, ?_⟩ <;> (unfold completeLoad; repeat' split) <;> simp

@[simp] theorem readStatusStep_frame (b : Byte) :
    (readStatusStep b s).pending = s.pending ∧ (readStatusStep b s).pins = s.pins ∧
    (readStatusStep b s).link = s.link ∧ (readStatusStep b s).timeBase = s.timeBase ∧
    (readStatusStep b s).intake = s.intake ∧ (readStatusStep b s).channels = s.channels ∧
    (readStatusStep b s).wheels = s.wheels ∧ (readStatusStep b s).law = s.law ∧
    (readStatusStep b s).regime = s.regime ∧ (readStatusStep b s).drives = s.drives ∧
    (readStatusStep b s).counters = s.counters := by
  refine ⟨?_, ?_, ?_, ?_, ?_, ?_, ?_, ?_, ?_, ?_, ?_⟩ <;> (unfold readStatusStep; repeat' split) <;> simp

@[simp] theorem headerStep_frame (b : Vector Byte 8) :
    (headerStep b s).pending = s.pending ∧ (headerStep b s).pins = s.pins ∧ (headerStep b s).wheels = s.wheels := by
  refine ⟨?_, ?_, ?_⟩ <;> (unfold headerStep; repeat' split) <;> simp

@[simp] theorem bodyStep_frame (c : Half) (b : List Byte) :
    (bodyStep c b s).pending = s.pending ∧ (bodyStep c b s).pins = s.pins ∧ (bodyStep c b s).wheels = s.wheels := by
  refine ⟨?_, ?_, ?_⟩ <;> (unfold bodyStep; repeat' split) <;> simp

@[simp] theorem verifyStep_frame (b : List Byte) :
    (verifyStep b s).pending = s.pending ∧ (verifyStep b s).pins = s.pins ∧ (verifyStep b s).timeBase = s.timeBase ∧
    (verifyStep b s).intake = s.intake ∧ (verifyStep b s).channels = s.channels ∧
    (verifyStep b s).wheels = s.wheels ∧ (verifyStep b s).law = s.law ∧ (verifyStep b s).regime = s.regime ∧
    (verifyStep b s).drives = s.drives ∧ (verifyStep b s).counters = s.counters := by
  refine ⟨?_, ?_, ?_, ?_, ?_, ?_, ?_, ?_, ?_, ?_⟩ <;> (unfold verifyStep; repeat' split) <;> simp

/-! ### Requests -/

@[simp] theorem takeAlign_frame (n : Half) :
    (takeAlign n s).pending = s.pending ∧ (takeAlign n s).pins = s.pins ∧ (takeAlign n s).intake = s.intake ∧
    (takeAlign n s).channels = s.channels ∧ (takeAlign n s).wheels = s.wheels ∧ (takeAlign n s).law = s.law ∧
    (takeAlign n s).regime = s.regime ∧ (takeAlign n s).drives = s.drives ∧ (takeAlign n s).counters = s.counters ∧
    (takeAlign n s).store = s.store := by
  refine ⟨?_, ?_, ?_, ?_, ?_, ?_, ?_, ?_, ?_, ?_⟩ <;> (unfold takeAlign; (try dsimp only); repeat' split) <;> simp

@[simp] theorem rideStep_frame :
    (rideStep s).pending = s.pending ∧ (rideStep s).pins = s.pins ∧ (rideStep s).timeBase = s.timeBase ∧
    (rideStep s).intake = s.intake ∧ (rideStep s).channels = s.channels ∧ (rideStep s).wheels = s.wheels ∧
    (rideStep s).store = s.store := by
  refine ⟨?_, ?_, ?_, ?_, ?_, ?_, ?_⟩ <;> unfold rideStep <;> simp

@[simp] theorem takeRide_frame :
    (takeRide s).pending = s.pending ∧ (takeRide s).pins = s.pins ∧ (takeRide s).timeBase = s.timeBase ∧
    (takeRide s).intake = s.intake ∧ (takeRide s).channels = s.channels ∧ (takeRide s).wheels = s.wheels ∧
    (takeRide s).store = s.store := by
  refine ⟨?_, ?_, ?_, ?_, ?_, ?_, ?_⟩ <;> (unfold takeRide; repeat' split) <;> simp

@[simp] theorem startLocking_frame :
    (startLocking s).pending = s.pending ∧ (startLocking s).pins = s.pins ∧ (startLocking s).timeBase = s.timeBase ∧
    (startLocking s).intake = s.intake ∧ (startLocking s).channels = s.channels ∧
    (startLocking s).wheels = s.wheels ∧ (startLocking s).law = s.law ∧ (startLocking s).counters = s.counters ∧
    (startLocking s).store = s.store := by
  refine ⟨?_, ?_, ?_, ?_, ?_, ?_, ?_, ?_, ?_⟩ <;> unfold startLocking <;> simp

@[simp] theorem takePark_frame :
    (takePark s).pending = s.pending ∧ (takePark s).pins = s.pins ∧ (takePark s).timeBase = s.timeBase ∧
    (takePark s).intake = s.intake ∧ (takePark s).channels = s.channels ∧ (takePark s).wheels = s.wheels ∧
    (takePark s).law = s.law ∧ (takePark s).store = s.store := by
  refine ⟨?_, ?_, ?_, ?_, ?_, ?_, ?_, ?_⟩ <;> (unfold takePark; repeat' split) <;> simp

@[simp] theorem homeStep_frame :
    (homeStep s).pending = s.pending ∧ (homeStep s).pins = s.pins ∧ (homeStep s).timeBase = s.timeBase ∧
    (homeStep s).intake = s.intake ∧ (homeStep s).wheels = s.wheels ∧ (homeStep s).law = s.law ∧
    (homeStep s).counters = s.counters ∧ (homeStep s).store = s.store := by
  refine ⟨?_, ?_, ?_, ?_, ?_, ?_, ?_, ?_⟩ <;> unfold homeStep <;> simp

@[simp] theorem takeHome_frame :
    (takeHome s).pending = s.pending ∧ (takeHome s).pins = s.pins ∧ (takeHome s).timeBase = s.timeBase ∧
    (takeHome s).intake = s.intake ∧ (takeHome s).wheels = s.wheels ∧ (takeHome s).law = s.law ∧
    (takeHome s).counters = s.counters ∧ (takeHome s).store = s.store := by
  refine ⟨?_, ?_, ?_, ?_, ?_, ?_, ?_, ?_⟩ <;> (unfold takeHome; repeat' split) <;> simp

@[simp] theorem dropFaults_frame :
    (dropFaults s).pending = s.pending ∧ (dropFaults s).pins = s.pins ∧ (dropFaults s).timeBase = s.timeBase ∧
    (dropFaults s).intake = s.intake ∧ (dropFaults s).law = s.law ∧ (dropFaults s).regime = s.regime ∧
    (dropFaults s).store = s.store := by
  refine ⟨?_, ?_, ?_, ?_, ?_, ?_, ?_⟩ <;> unfold dropFaults <;> simp

@[simp] theorem clearStep_frame :
    (clearStep s).pending = s.pending ∧ (clearStep s).pins = s.pins ∧ (clearStep s).timeBase = s.timeBase ∧
    (clearStep s).intake = s.intake ∧ (clearStep s).law = s.law ∧ (clearStep s).store = s.store := by
  refine ⟨?_, ?_, ?_, ?_, ?_, ?_⟩ <;> (unfold clearStep; (try dsimp only); repeat' split) <;> simp

@[simp] theorem takeClear_frame :
    (takeClear s).pending = s.pending ∧ (takeClear s).pins = s.pins ∧ (takeClear s).timeBase = s.timeBase ∧
    (takeClear s).intake = s.intake ∧ (takeClear s).law = s.law ∧ (takeClear s).store = s.store := by
  refine ⟨?_, ?_, ?_, ?_, ?_, ?_⟩ <;> (unfold takeClear; repeat' split) <;> simp

@[simp] theorem takeHistoryRead_frame :
    (takeHistoryRead s).pending = s.pending ∧ (takeHistoryRead s).pins = s.pins ∧
    (takeHistoryRead s).timeBase = s.timeBase ∧ (takeHistoryRead s).intake = s.intake ∧
    (takeHistoryRead s).channels = s.channels ∧ (takeHistoryRead s).wheels = s.wheels ∧
    (takeHistoryRead s).law = s.law ∧ (takeHistoryRead s).regime = s.regime ∧
    (takeHistoryRead s).drives = s.drives ∧ (takeHistoryRead s).counters = s.counters ∧
    (takeHistoryRead s).store = s.store := by
  refine ⟨?_, ?_, ?_, ?_, ?_, ?_, ?_, ?_, ?_, ?_, ?_⟩ <;> unfold takeHistoryRead <;> simp

@[simp] theorem takeStatus_frame :
    (takeStatus s).pending = s.pending ∧ (takeStatus s).pins = s.pins ∧ (takeStatus s).timeBase = s.timeBase ∧
    (takeStatus s).intake = s.intake ∧ (takeStatus s).channels = s.channels ∧ (takeStatus s).wheels = s.wheels ∧
    (takeStatus s).law = s.law ∧ (takeStatus s).regime = s.regime ∧ (takeStatus s).drives = s.drives ∧
    (takeStatus s).counters = s.counters ∧ (takeStatus s).store = s.store := by
  refine ⟨?_, ?_, ?_, ?_, ?_, ?_, ?_, ?_, ?_, ?_, ?_⟩ <;> unfold takeStatus <;> simp

@[simp] theorem takeReset_frame :
    (takeReset s).pending = s.pending ∧ (takeReset s).pins = s.pins ∧ (takeReset s).timeBase = s.timeBase ∧
    (takeReset s).intake = s.intake ∧ (takeReset s).channels = s.channels ∧ (takeReset s).wheels = s.wheels ∧
    (takeReset s).law = s.law ∧ (takeReset s).regime = s.regime ∧ (takeReset s).drives = s.drives ∧
    (takeReset s).counters = s.counters ∧ (takeReset s).store = s.store := by
  refine ⟨?_, ?_, ?_, ?_, ?_, ?_, ?_, ?_, ?_, ?_, ?_⟩ <;> (unfold takeReset; repeat' split) <;> simp

end Sys2Proof.Machine
end

