-- ==== Sys2Proof/Laws/Commands.lean ====
section
/-! SUPPORT. What a mode command does to its drive and to the other one (R146), what the brake commands do (R162, R163),
what a regime change writes (R36), and that a delivery of conditions reads and writes the counters and the link alone. -/

namespace Sys2Proof.Machine

/-- The mode a command asks for. -/
def commandedMode : DriveCommand → DriveMode
  | .off => .off
  | .creep => .creep
  | .hold _ => .hold
  | .run => .run

@[simp] theorem getDrive_endSaturation_mode (d e : DriveId) (s : State) :
    (getDrive (endSaturation d s) e).mode = (getDrive s e).mode := by
  unfold endSaturation
  split
  · cases d <;> cases e <;> simp [deliverSaturated, getDrive, setDrive]
  · rfl

/-- Ending a saturation that does not stand changes nothing. -/
theorem endSaturation_of_not (d : DriveId) (s : State) (h : (getDrive s d).saturated = false) :
    endSaturation d s = s := by
  simp [endSaturation, h]

theorem endSaturation_other (d e : DriveId) (s : State) (h : e ≠ d) :
    getDrive (endSaturation d s) e = getDrive s e := by
  unfold endSaturation
  split
  · cases d <;> cases e <;> first | exact absurd rfl h | simp [deliverSaturated, getDrive, setDrive]
  · rfl

theorem leaveMode_other (d e : DriveId) (s : State) (h : e ≠ d) : getDrive (leaveMode d s) e = getDrive s e := by
  unfold leaveMode
  split <;> simp only [endSaturation_other d e _ h, getDrive_setDrive_of_ne _ _ h]

/-- A command to one drive leaves the record of the other. -/
theorem commandDrive_other (d e : DriveId) (cmd : DriveCommand) (s : State) (h : e ≠ d) :
    getDrive (commandDrive d cmd s) e = getDrive s e := by
  unfold commandDrive
  split <;>
    simp only [enterOff, enterCreep, enterLoop, getDrive_setDrive_of_ne _ _ h, leaveMode_other d e _ h]

/-- A commanded drive takes the mode of the command, unless it is in FAULT (R30, R146). -/
theorem commandDrive_mode (d : DriveId) (cmd : DriveCommand) (s : State) :
    (getDrive (commandDrive d cmd s) d).mode =
      if (getDrive s d).mode = .fault then .fault else commandedMode cmd := by
  unfold commandDrive
  cases cmd <;> cases h : (getDrive s d).mode <;> cases d <;>
    simp_all [getDrive, setDrive, enterOff, enterCreep, enterLoop, commandedMode]

/-- A regime change is a REGIME notice on the state with the new regime (R36). -/
theorem changeRegime_eq (r : Regime) (cause : Option AbortCause) (s : State) :
    changeRegime r cause s =
      postRegimeNotice ⟨r, s.regime.regime, cause, alphaAt r s.regime.blend (now s), msOf (now s)⟩
        { s with regime := { s.regime with regime := r } } := rfl

/-- A SAFE entry ends in SAFE (R57). -/
@[simp] theorem enterSafe_regime (cause : AbortCause) (speed : Nat) (s : State) :
    (enterSafe cause speed s).regime.regime = .safe := by
  simp [enterSafe, changeRegime]

/-- The selected speed does not depend on the link (R113). -/
@[simp] theorem selectedSpeed_postFaultNotice (n : FaultNotice) (s : State) :
    selectedSpeed (postFaultNotice n s) = selectedSpeed s := rfl

/-- A fault report leads to the regime that its FAULT notice carries (R35). -/
theorem faultReport_regime (source : FaultSource) (cause : FaultCause) (value : Int) (s : State) :
    (faultReport source cause value s).regime.regime = regimeAfterFault source s.regime.regime := by
  unfold faultReport actOnFault regimeAfterFault
  cases source <;> simp only [faultAbortCause] <;> cases h : s.regime.regime <;>
    simp [h, homingChannelFault, homingCheck, safeFaultEffect, safeTiltOff, setSafeHolding, setPhase, appendRecord] <;>
    (repeat' split) <;> simp_all

/-- The brake states a release command leaves (R162). -/
theorem commandRelease_state (s : State) :
    (commandRelease s).drives.brake.state = .released ∨ (commandRelease s).drives.brake.state = .releasing
      ∨ (s.drives.brake.state = .brakeFault ∧ commandRelease s = s) := by
  cases h : s.drives.brake.state <;> simp only [commandRelease, h, startReleasing]
  all_goals first
    | (split <;> simp [setBrake])
    | simp

/-- The brake states an engage command leaves (R163). -/
theorem commandEngage_state (s : State) :
    (commandEngage s).drives.brake.state = .engaged ∨ (commandEngage s).drives.brake.state = .engaging
      ∨ (s.drives.brake.state = .brakeFault ∧ commandEngage s = s) := by
  cases h : s.drives.brake.state <;> simp only [commandEngage, h, startEngaging]
  all_goals first
    | (split <;> simp [setBrake])
    | simp

/-! ### A delivery beside other writes

A delivery reads the counters, the link and the time, and writes the counters and the link: it commutes with every other write. -/

/-- The state `u` with the counters and the link of `s`. -/
def beside (u s : State) : State := { u with counters := s.counters, link := s.link }

theorem offerTo_beside (take : Counter → Counter × Bool) (u s : State) (i : Fin 8) (h : now u = now s) :
    offerTo take (beside u s) i = beside u (offerTo take s i) := by
  unfold offerTo beside
  dsimp only [nowMs]
  rw [show now { u with counters := s.counters, link := s.link } = now s from h]
  split <;> rfl

theorem foldl_offerTo_beside (take : Counter → Counter × Bool) (is : List (Fin 8)) (u s : State) (h : now u = now s) :
    is.foldl (offerTo take) (beside u s) = beside u (is.foldl (offerTo take) s) := by
  induction is generalizing s with
  | nil => rfl
  | cons i is ih =>
    simp only [List.foldl_cons, offerTo_beside take u s i h]
    exact ih _ (by simp [now] at *; exact h)

theorem deliverConditions_beside (new : Conditions) (u s : State) (h : now u = now s) :
    deliverConditions new (beside u s) = beside u (deliverConditions new s) := by
  unfold deliverConditions offerAll
  rw [show now (beside u s) = now s from h]
  exact foldl_offerTo_beside _ _ u { s with counters := { s.counters with conditions := new } } h

theorem deliverSaturated_beside (d : DriveId) (v : Bool) (u s : State) (h : now u = now s) :
    deliverSaturated d v (beside u s) = beside u (deliverSaturated d v s) := by
  cases d <;> exact deliverConditions_beside _ u s h

theorem deliverSaturated_eq_beside (d : DriveId) (v : Bool) (s : State) :
    deliverSaturated d v s = beside s (deliverSaturated d v s) := deliverSaturated_beside d v s s rfl

theorem leavingTold_eq_beside (d : DriveId) (s : State) : leavingTold d s = beside s (leavingTold d s) := by
  unfold leavingTold
  split
  · exact deliverSaturated_eq_beside d false s
  · rfl

/-- A saturation is told alike before and after a drive record is written. -/
theorem deliverSaturated_setDrive (d e : DriveId) (v : Bool) (r : Drive) (s : State) :
    deliverSaturated d v (setDrive e r s) = setDrive e r (deliverSaturated d v s) := by
  have written : ∀ t : State, setDrive e r (beside s t) = beside (setDrive e r s) t := fun _ => by cases e <;> rfl
  rw [deliverSaturated_eq_beside d v s, written, ← deliverSaturated_beside d v _ s (by cases e <;> rfl), ← written]
  rfl

/-! ### A drive that leaves its mode, and an OFF command (R146, R148, R154) -/

theorem setDrive_getDrive (d : DriveId) (s : State) : setDrive d (getDrive s d) s = s := by cases d <;> rfl

theorem setDrive_setDrive (d : DriveId) (r r' : Drive) (s : State) : setDrive d r (setDrive d r' s) = setDrive d r s := by
  cases d <;> rfl

/-- The mode stays until the next one is entered. -/
@[simp] theorem leftRecord_mode (r : Drive) : (leftRecord r).mode = r.mode := by
  unfold leftRecord
  split <;> simp_all

theorem endSaturation_setDrive (d : DriveId) (r : Drive) (s : State) :
    endSaturation d (setDrive d r s) =
      setDrive d { r with saturated := false } (if r.saturated then deliverSaturated d false s else s) := by
  unfold endSaturation
  simp only [getDrive_setDrive]
  split
  · rw [setDrive_setDrive, deliverSaturated_setDrive]
  · congr 1
    cases r
    simp_all

/-- Leaving a mode writes the record that is left, and tells of a saturation that ends. -/
theorem leaveMode_eq (d : DriveId) (s : State) :
    leaveMode d s = setDrive d (leftRecord (getDrive s d)) (leavingTold d s) := by
  unfold leaveMode leftRecord leavingTold endsSaturation
  cases h : (getDrive s d).mode <;> dsimp only
  · simp [setDrive_getDrive]
  · simp [h]
  · rw [endSaturation_setDrive]
    simp [h]
  · rw [endSaturation_setDrive]
    simp [h]
  · simp [setDrive_getDrive]

/-- An OFF command writes the record with the bridge off, and tells of a saturation that ends. -/
theorem commandOff_eq (d : DriveId) (s : State) :
    commandDrive d .off s = setDrive d (offRecord (getDrive s d)) (leavingTold d s) := by
  unfold commandDrive offRecord
  cases h : (getDrive s d).mode <;> simp only [enterOff, leaveMode_eq]
  · simp [leavingTold, endsSaturation, h, setDrive_getDrive]
  all_goals simp [setDrive_setDrive, bridgeOff]
  · simp [leavingTold, endsSaturation, h, setDrive_getDrive]

end Sys2Proof.Machine
end

