-- ==== Sys2Proof/Laws/Counting.lean ====
section
/-! SUPPORT. What an event offered to all counters makes of each of them: every counter takes its own part, once. -/

namespace Sys2Proof.Machine

/-- One offer replaces the record of its counter by the counter's part. -/
theorem offerTo_counters (take : Counter → Counter × Bool) (s : State) (i : Fin 8) :
    (offerTo take s i).counters =
      { s.counters with counters := s.counters.counters.set i (take s.counters.counters[i]).1 } := by
  unfold offerTo
  dsimp only
  split <;> simp

/-- Offering to a list of counters without repeats gives each of them its part, and leaves the others. -/
theorem foldl_offerTo_counters (take : Counter → Counter × Bool) (is : List (Fin 8)) (distinct : is.Nodup) (s : State)
    (i : Fin 8) :
    (is.foldl (offerTo take) s).counters.counters[i] =
      if i ∈ is then (take s.counters.counters[i]).1 else s.counters.counters[i] := by
  induction is generalizing s with
  | nil => simp
  | cons j rest ih =>
    obtain ⟨fresh, distinct⟩ := List.nodup_cons.mp distinct
    rw [List.foldl_cons, ih distinct, offerTo_counters]
    by_cases same : i = j
    · subst same
      simp [fresh]
    · have apart : j.val ≠ i.val := fun h => same (Fin.ext h.symm)
      simp [same, apart]

/-- After an event is offered to all counters each holds its own part of it. -/
theorem offerAll_counters (take : Counter → Counter × Bool) (s : State) (i : Fin 8) :
    (offerAll take s).counters.counters[i] = (take s.counters.counters[i]).1 := by
  have every : ∀ j : Fin 8, j ∈ counterIndices := by decide
  rw [offerAll, foldl_offerTo_counters take counterIndices (by decide), if_pos (every i)]

/-- An event offered to all counters leaves the condition table. -/
@[simp] theorem offerAll_conditions (take : Counter → Counter × Bool) (s : State) :
    (offerAll take s).counters.conditions = s.counters.conditions := by
  unfold offerAll counterIndices
  simp [offerTo_counters]

/-- A counter whose part sets no flag posts nothing. -/
theorem offerTo_link (take : Counter → Counter × Bool) (s : State) (i : Fin 8)
    (h : (take s.counters.counters[i]).2 = false) : (offerTo take s i).link = s.link := by
  unfold offerTo
  dsimp only
  rw [h, Bool.false_and, if_neg Bool.false_ne_true]

/-- What an occurrence makes of a counter (R174). -/
theorem deliver_counters (e : CounterEvent) (kinds : Byte) (s : State) (i : Fin 8) :
    (deliver e kinds s).counters.counters[i] = (takeOccurrence e kinds s.counters.counters[i]).1 := by
  rw [deliver, offerAll_counters]

/-- What a delivery of conditions makes of a counter and of the table (R172). -/
theorem deliverConditions_counters (new : Conditions) (s : State) (i : Fin 8) :
    (deliverConditions new s).counters.counters[i] =
      (takeConditions s.counters.conditions new (now s) s.counters.counters[i]).1 := by
  rw [deliverConditions, offerAll_counters]

@[simp] theorem deliverConditions_conditions (new : Conditions) (s : State) :
    (deliverConditions new s).counters.conditions = new := by
  simp [deliverConditions]

end Sys2Proof.Machine
end

