-- ==== Sys2Proof/Laws/Exec.lean ====
section
/-! SUPPORT. The dispatch, one equation per command: `exec` is a call of that command's meaning. -/

namespace Sys2Proof.Machine

variable (s : State)

@[simp]
theorem exec_powerOnReset (levels : PinLevels) : exec (.powerOnReset levels) s = execPowerOnReset levels s := rfl
@[simp] theorem exec_commandReset : exec .commandReset s = execCommandReset s := rfl
@[simp] theorem exec_linkByte (byte : Byte) : exec (.linkByte byte) s = execLinkByte byte s := rfl
@[simp] theorem exec_gapTimerExpiry : exec .gapTimerExpiry s = execGapTimerExpiry s := rfl
@[simp] theorem exec_unknownKind (kind : Byte) (payload : List Byte) :
    exec (.unknownKind kind payload) s = execUnknownKind kind payload s := rfl
@[simp] theorem exec_motion (payload : List Byte) : exec (.motion payload) s = execMotion payload s := rfl
@[simp] theorem exec_align (n : Half) : exec (.align n) s = execAlign n s := rfl
@[simp] theorem exec_ride : exec .ride s = execRide s := rfl
@[simp] theorem exec_park : exec .park s = execPark s := rfl
@[simp] theorem exec_home : exec .home s = execHome s := rfl
@[simp] theorem exec_clear : exec .clear s = execClear s := rfl
@[simp]
theorem exec_paramSet (id : Byte) (value : Half) : exec (.paramSet id value) s = execParamSet id value s := rfl
@[simp] theorem exec_paramGet (id : Byte) : exec (.paramGet id) s = execParamGet id s := rfl
@[simp] theorem exec_mapSet (point : Byte) (speed : Half) (kc : Half) (kcs : Half) (lmax : Half) :
    exec (.mapSet point speed kc kcs lmax) s = execMapSet point speed kc kcs lmax s := rfl
@[simp] theorem exec_mapGet (point : Byte) : exec (.mapGet point) s = execMapGet point s := rfl
@[simp]
theorem exec_counterSet (counter : Byte) (event : Byte) (mask : Byte) (mode : Byte) (threshold : Word32) (action : Byte) :
    exec (.counterSet counter event mask mode threshold action) s = execCounterSet counter event mask mode threshold action s := rfl
@[simp] theorem exec_counterRead : exec .counterRead s = execCounterRead s := rfl
@[simp] theorem exec_counterClear (mask : Byte) : exec (.counterClear mask) s = execCounterClear mask s := rfl
@[simp] theorem exec_historyRead : exec .historyRead s = execHistoryRead s := rfl
@[simp] theorem exec_status : exec .status s = execStatus s := rfl
@[simp] theorem exec_save : exec .save s = execSave s := rfl
@[simp] theorem exec_load : exec .load s = execLoad s := rfl
@[simp] theorem exec_reset : exec .reset s = execReset s := rfl
@[simp] theorem exec_transmitEnd : exec .transmitEnd s = execTransmitEnd s := rfl
@[simp] theorem exec_statusTimerExpiry : exec .statusTimerExpiry s = execStatusTimerExpiry s := rfl
@[simp] theorem exec_strobe : exec .strobe s = execStrobe s := rfl
@[simp] theorem exec_missedStrobe : exec .missedStrobe s = execMissedStrobe s := rfl
@[simp] theorem exec_freshnessDeadlineExpiry : exec .freshnessDeadlineExpiry s = execFreshnessDeadlineExpiry s := rfl
@[simp] theorem exec_lineEvent (channel : ChannelId) (lines : LinePair) (z : Bool) :
    exec (.lineEvent channel lines z) s = execLineEvent channel lines z s := rfl
@[simp] theorem exec_suspectTimerExpiry (channel : ChannelId) :
    exec (.suspectTimerExpiry channel) s = execSuspectTimerExpiry channel s := rfl
@[simp] theorem exec_wheelEdge (wheel : WheelId) : exec (.wheelEdge wheel) s = execWheelEdge wheel s := rfl
@[simp]
theorem exec_stopTimerExpiry (wheel : WheelId) : exec (.stopTimerExpiry wheel) s = execStopTimerExpiry wheel s := rfl
@[simp] theorem exec_lawExpiry : exec .lawExpiry s = execLawExpiry s := rfl
@[simp] theorem exec_releaseBlendExpiry : exec .releaseBlendExpiry s = execReleaseBlendExpiry s := rfl
@[simp] theorem exec_captureBlendExpiry : exec .captureBlendExpiry s = execCaptureBlendExpiry s := rfl
@[simp] theorem exec_leaveInit : exec .leaveInit s = execLeaveInit s := rfl
@[simp] theorem exec_brakeReleased (tside : Bool) (sside : Bool) :
    exec (.brakeReleased tside sside) s = execBrakeReleased tside sside s := rfl
@[simp] theorem exec_brakeEngaged : exec .brakeEngaged s = execBrakeEngaged s := rfl
@[simp]
theorem exec_pwmBoundary (toc : Bool) (soc : Bool) : exec (.pwmBoundary toc soc) s = execPwmBoundary toc soc s := rfl
@[simp] theorem exec_loopExpiry (tside : Bool) (sside : Bool) :
    exec (.loopExpiry tside sside) s = execLoopExpiry tside sside s := rfl
@[simp]
theorem exec_overcurrentCut (drive : DriveId) : exec (.overcurrentCut drive) s = execOvercurrentCut drive s := rfl
@[simp] theorem exec_creepTimerExpiry (drive : DriveId) :
    exec (.creepTimerExpiry drive) s = execCreepTimerExpiry drive s := rfl
@[simp] theorem exec_brksRise : exec .brksRise s = execBrksRise s := rfl
@[simp] theorem exec_brksFall : exec .brksFall s = execBrksFall s := rfl
@[simp] theorem exec_brakeTimerExpiry : exec .brakeTimerExpiry s = execBrakeTimerExpiry s := rfl
@[simp] theorem exec_millisecondTimerExpiry (counter : Fin 8) :
    exec (.millisecondTimerExpiry counter) s = execMillisecondTimerExpiry counter s := rfl
@[simp] theorem exec_readStatusDone (statusByte : Byte) :
    exec (.readStatusDone statusByte) s = execReadStatusDone statusByte s := rfl
@[simp] theorem exec_pollLimitExpiry : exec .pollLimitExpiry s = execPollLimitExpiry s := rfl
@[simp] theorem exec_headerReadDone (bytes : Vector Byte 8) :
    exec (.headerReadDone bytes) s = execHeaderReadDone bytes s := rfl
@[simp] theorem exec_bodyReadDone (bytes : List Byte) : exec (.bodyReadDone bytes) s = execBodyReadDone bytes s := rfl
@[simp] theorem exec_writeEnableDone : exec .writeEnableDone s = execWriteEnableDone s := rfl
@[simp] theorem exec_sectorEraseDone : exec .sectorEraseDone s = execSectorEraseDone s := rfl
@[simp] theorem exec_pageProgramDone : exec .pageProgramDone s = execPageProgramDone s := rfl
@[simp] theorem exec_verifyReadDone (bytes : Vector Byte 176) :
    exec (.verifyReadDone bytes) s = execVerifyReadDone bytes s := rfl

end Sys2Proof.Machine
end

