-- ==== Sys2Proof/Laws/Link.lean ====
section
/-! SUPPORT. What the shared operations of the link can do: the selection keeps the receiver's side, a request that may be
taken at its entry is handed over at once, and the byte layouts give their fields back. -/

namespace Sys2Proof.Machine

/-- The selection touches neither the receiver nor the receive queue nor the handover flag nor the status timer. -/
@[simp] theorem selectToSend_fields (l : Link) :
    (selectToSend l).receiver = l.receiver ∧ (selectToSend l).gapTimer = l.gapTimer ∧
    (selectToSend l).receiveQueue = l.receiveQueue ∧ (selectToSend l).handover = l.handover ∧
    (selectToSend l).statusTimer = l.statusTimer := by
  unfold selectToSend startSending
  repeat' split
  all_goals exact ⟨rfl, rfl, rfl, rfl, rfl⟩

/-- The selection never lengthens the reply queue. -/
theorem selectToSend_replyQueue (l : Link) : (selectToSend l).replyQueue.length ≤ l.replyQueue.length := by
  unfold selectToSend startSending
  repeat' split
  all_goals simp_all

/-- A transmitter that is sending selects nothing. -/
theorem selectToSend_sending (l : Link) (h : l.transmitter.isSome = true) : selectToSend l = l := by
  simp [selectToSend, h]

/-- With nothing pending the selection changes nothing. -/
theorem selectToSend_nothing (l : Link) (h : NothingPending l) : selectToSend l = l := by
  obtain ⟨a, b, c, d, e, f, g⟩ := h
  simp [selectToSend, a, b, c, d, e, f, g]

/-- Every reply has a first frame. -/
theorem replyFrames_cons (r : Reply) : ∃ f more, replyFrames r = f :: more := by
  cases r with
  | accepted data =>
    cases data <;> simp [replyFrames, replyDataFrames]
    split <;> simp
  | refused kind code => simp [replyFrames]

/-- A kind byte names its kind. -/
@[simp] theorem kindOfByte_kindByte (k : RequestKind) : kindOfByte (kindByte k) = some k := by cases k <;> rfl

/-- A frame that may be taken at its entry is handed over at once, and leaves no trace in the receive queue (R194). -/
theorem presentFrame_of_takesAtOnce (f : Frame) (s : State) (h : TakesAtOnce s) : presentFrame f s = handOver f s := by
  obtain ⟨opened, empty, room⟩ := h
  have may : ∀ frames, mayTake f { s.link with receiveQueue := frames } = true := by
    intro frames
    simp [mayTake, opened, room]
  have back : ∀ frames, setReceiveQueue [] (setReceiveQueue frames s) = s := by
    intro frames
    obtain ⟨_, _, link, _, _, _, _, _, _, _, _, _⟩ := s
    cases link
    simp_all [setReceiveQueue]
  simp only [presentFrame, empty, List.length_nil, Nat.zero_lt_succ, List.nil_append, ↓reduceIte, proceedHandover,
    setReceiveQueue_fields, List.length_singleton, handOverWaiting, may, back]

/-- Two bytes of a frame joined, high byte first. -/
theorem toNat_append_byte {n : Nat} (x : BitVec n) (y : Byte) : (x ++ y).toNat = x.toNat * 256 + y.toNat := by
  rw [BitVec.toNat_append, ← Nat.shiftLeft_add_eq_or_of_lt y.isLt, Nat.shiftLeft_eq]

/-- Two two-byte fields joined, high one first. -/
theorem toNat_append_half {n : Nat} (x : BitVec n) (y : Half) : (x ++ y).toNat = x.toNat * 65536 + y.toNat := by
  rw [BitVec.toNat_append, ← Nat.shiftLeft_add_eq_or_of_lt y.isLt, Nat.shiftLeft_eq]

/-- A two-byte field is read back from its two bytes (R3). -/
@[simp] theorem bytes_of_half (v : Half) : byteOf (v.toNat / 256) ++ byteOf v.toNat = v := by
  apply BitVec.eq_of_toNat_eq
  have bound := v.isLt
  rw [toNat_append_byte]
  simp only [byteOf, BitVec.toNat_ofNat]
  omega

/-- A four-byte field is read back from its four bytes (R3). -/
@[simp] theorem wordAt_le32 (v : Word32) : wordAt (le32 v.toNat) 0 = v := by
  have bound := v.isLt
  apply BitVec.eq_of_toNat_eq
  show ((byteOf (v.toNat / 16777216) ++ byteOf (v.toNat / 65536) : Half)
    ++ (byteOf (v.toNat / 256) ++ byteOf v.toNat : Half)).toNat = v.toNat
  rw [toNat_append_half, toNat_append_byte, toNat_append_byte]
  simp only [byteOf, BitVec.toNat_ofNat]
  omega

end Sys2Proof.Machine
end

