-- ==== Sys2Proof/Tests/Slice0.lean ====
section
/-! SUPPORT. Tests of the model against the worked figures of the manual, and a witness for the hypotheses of each statement.
Every expected value is a figure of spec/ or follows from its tables by hand. -/

namespace Sys2Proof.Tests

/- Each test is one kernel evaluation; one thread for all of them keeps the compile within its memory limit. -/
set_option Elab.async false

open Sys2Proof.Machine

/-! ### States to test on -/

/-- The state a command leaves. -/
def ran (c : Instr) (s : State) : State :=
  match exec c s with
  | .next t => t
  | .fault f => nomatch f
  | .refused _ => s

/-- PARKED with everything homed, the brake ENGAGED and the store IDLE. -/
def parked : State :=
  { State.reset with
    channels :=
      ⟨{ State.reset.channels.tilt with state := .homed }, { State.reset.channels.steer with state := .homed },
       { State.reset.channels.bar with state := .homed }⟩
    regime := { State.reset.regime with regime := .parked }
    drives := { State.reset.drives with brake := ⟨.engaged, false, none⟩ }
    store := commandResetStore defaultCalibration }

def inRegime (r : Regime) (s : State) : State := { s with regime := { s.regime with regime := r } }

def atTime (t : Time) (s : State) : State := { s with timeBase := { s.timeBase with localTime := t } }

/-- All three wheels rolling at a speed, their latest edges now. -/
def rolling (v : Nat) (s : State) : State :=
  let w : Wheel := ⟨.rolling, now s, some 3000, v⟩
  { s with wheels := ⟨w, w, w, false, none⟩ }

def withBrake (b : Brake) (s : State) : State := { s with drives := { s.drives with brake := b } }

def withTilt (r : Drive) (s : State) : State := { s with drives := { s.drives with tilt := r } }

def withStep (k : StoreStep) (s : State) : State := { s with store := { s.store with step := some k } }

def withReceiver (r : Receiver) (s : State) : State := { s with link := { s.link with receiver := r } }

/-- A transmitter that is sending a status report, so that nothing posted leaves its place. -/
def sending (s : State) : State := { s with link := { s.link with transmitter := some ⟨⟨0xA0, []⟩, []⟩ } }

/-- Riding with the brake RELEASED and both drives in RUN. -/
def riding (r : Regime) (s : State) : State :=
  withBrake ⟨.released, true, none⟩
    { inRegime r s with
      drives := { s.drives with
        tilt := { s.drives.tilt with mode := .run, holdTarget := none }
        steer := { s.drives.steer with mode := .run, holdTarget := none } } }

def releasing : Blend := ⟨.release, 0, 0, 400, 400000⟩

/-- RELEASE at local time 150000, with α 384. -/
def inRelease : State :=
  let s := riding .release (atTime 150000 (sending parked))
  { s with regime := { s.regime with blend := some releasing } }

/-! ### Well-formed commands -/

theorem test_wellFormed_refuses_a_request_kind : (Instr.unknownKind 0x10 []).wellFormed = false := by decide
theorem test_wellFormed_refuses_a_long_payload :
    (Instr.unknownKind 0x00 (List.replicate 49 0)).wellFormed = false := by decide
theorem test_wellFormed_refuses_a_long_report : (Instr.motion (List.replicate 49 0)).wellFormed = false := by decide
theorem test_wellFormed_refuses_a_short_body : (Instr.bodyReadDone (List.replicate 69 0)).wellFormed = false := by decide
theorem test_wellFormed_refuses_a_long_body :
    (Instr.bodyReadDone (List.replicate 267 0)).wellFormed = false := by decide +kernel
theorem test_wellFormed_refuses_a_cut_body : (Instr.bodyReadDone (List.replicate 73 0)).wellFormed = false := by decide
theorem test_wellFormed_accepts_a_body : (Instr.bodyReadDone (List.replicate 264 0)).wellFormed = true := by decide +kernel

/-! ### No word spells a command -/

theorem test_no_word_spells_a_command (nbits w : Nat) : decodeTableWord nbits w = none := rfl
theorem test_fetch_word_leaves_the_state (s : State) (nbits w : Nat) : s.withFetchWord nbits w = s := rfl

/-! ### Worked figures of the law (01 §1.11, 03 §3.6) -/

theorem test_law_computation_A :
    computeLaw ⟨1000, false, ⟨750, true⟩, some 2350, some 0, 30, 1024, 1024, .freeLean, .run⟩ defaultCalibration 2400 305 =
      ⟨450, 298, 2409, 2379, 314, ⟨false, false, true⟩, ⟨false, false⟩⟩ := by decide +kernel

theorem test_law_computation_B :
    let r := computeLaw ⟨2000, false, ⟨1000, true⟩, none, none, -800, 512, 1024, .freeLean, .run⟩ defaultCalibration 2600 0
    (r.kappa, r.phiT, r.lambdaT, r.flags) = (200, 2591, 3391, ⟨true, true, true⟩) := by decide +kernel

theorem test_law_computation_C :
    computeLaw ⟨300, false, ⟨-1500, true⟩, some (-400), some 0, 0, 1024, 384, .release, .run⟩ defaultCalibration
        (-420) (-1820) =
      ⟨-3101, 21, -425, -425, -1836, ⟨false, true, false⟩, ⟨false, false⟩⟩ := by decide +kernel

/-- A bar beyond the range in traffic (03 §3.6). -/
theorem test_law_bar_beyond_range :
    let r := computeLaw ⟨80, false, ⟨4000, true⟩, none, none, 0, 1024, 0, .uprightHold, .run⟩ defaultCalibration 0 3300
    (r.deltaT, r.steerFlags) = (3318, ⟨true, true⟩) := by decide +kernel

/-! ### Worked figures of the channels, the wheels and the drives (R87, R103, R115, R141, R152) -/

theorem test_angles :
    (angleOfCount 1071 16384, angleOfCount (-1071) 16384, angleOfCount 64 4096, angleOfCount (-64) 4096,
      angleOfCount 910 8192, angleOfCount 911 8192) = (2353, -2353, 563, -563, 3999, 4003) := by decide +kernel

theorem test_wheel_speeds :
    [2708, 5000, 677, 100, 249999].map (wheelSpeed defaultParams .fl) = [1000, 541, 4000, 4000, 10] ∧
      [3020, 3776].map (wheelSpeed defaultParams .rr) = [1000, 800] := by decide +kernel

/-- R35 and 2.13, "A drive fault during free lean": an idle transmitter takes the FAULT notice, with regime SAFE, and the REGIME
notice waits; a busy one keeps both (9.11, "Notices during a busy transmitter"). -/
theorem test_fault_notice_comes_first :
    let notice : FaultNotice := ⟨.drive .tilt, .overload, 900, .safe, 0⟩
    let report (s : State) : State := faultReport (.drive .tilt) .overload 900 s
    let idle := report (riding .freeLean parked)
    let busy := report (sending (riding .freeLean parked))
    (idle.link.transmitter.map (·.current) = some (faultNoticeFrame notice) ∧ idle.link.faultSlot = none ∧
      idle.link.regimeSlot.isSome = true) ∧
    busy.link.faultSlot = some notice ∧ busy.link.regimeSlot.isSome = true := by
  decide +kernel

/-- The table of R113. -/
theorem test_selection :
    [measuredSpeed (some 1000) (some 980) (some 1010), measuredSpeed (some 2360) (some 2350) (some 2340),
      measuredSpeed (some 796) (some 796) (some 113), measuredSpeed (some 1000) none (some 1010),
      measuredSpeed (some 0) (some 31) (some 40), measuredSpeed none none (some 1000)] =
        [some 1000, some 2350, some 796, some 1000, some 31, none] := by decide +kernel

/-- Computations 6 and 7 of "The bar ring after INIT" (1.12). -/
theorem test_bar_ring :
    pushBar [100, 100, 120, 160, 220] 300 = [100, 100, 120, 160, 220, 300] ∧
      pushBar [100, 100, 120, 160, 220, 300] 380 = [100, 120, 160, 220, 300, 380] := by decide +kernel

theorem test_loop_duties :
    (loopDuty 96 640 900 120 100, loopDuty 96 640 900 90 120, loopDuty 128 512 900 (-37) (-30),
      loopDuty 96 640 900 3000 2900) = (95, -41, -33, 900) := by decide +kernel

theorem test_kinematic_yaw : kinematicYaw 1000 348 1350 = 2578 := by decide +kernel

theorem test_allowance_is_agreement :
    verdictOf defaultParams 1000 1000 1150 1000 = .agree ∧ verdictOf defaultParams 1000 1000 1151 1000 = .disagree := by
  decide +kernel

theorem test_camber_stops_within_three :
    camberAfter 800 0 4 = 1 ∧ camberAfter 800 0 3 = 0 ∧ camberAfter 800 0 (-4) = -1 := by decide +kernel

/-! ### Frames and calibration (09 §9.11, 10 §10.7) -/

theorem test_status_request_frame : frameLine ⟨0x34, []⟩ = [0xC3, 0x00, 0x34, 0x6B, 0xD8] := by decide +kernel

/-- R189: the bit times of 0xC3, start bit first; with nothing in progress LTX is high (R188). -/
theorem test_ltx_of_a_start_character :
    (List.range 10).map (ltxHigh (sending parked).link) =
        [false, true, true, false, false, false, false, true, true, true] ∧
      ltxHigh State.reset.link 0 = true := by decide +kernel

/-- R217, R224: FSCS is high while no transaction is in progress. -/
theorem test_fscs : fscsHigh (withStep .loadHeader parked).store = false ∧ fscsHigh parked.store = true := by decide +kernel

theorem test_cross_constraints :
    let a := writeParam defaultParams .vLock 300
    let b := writeParam a .vFree 200
    let c := writeParam b .vPark 120
    let d := writeParam c .vLock 50
    [(a.vLock, a.vFree, a.vPark), (b.vLock, b.vFree, b.vPark), (c.vLock, c.vFree, c.vPark),
      (d.vLock, d.vFree, d.vPark)] = [(300, 350, 30), (300, 350, 30), (300, 350, 100), (50, 350, 30)] := by decide +kernel

theorem test_image_with_duplicates :
    let tuples : List Byte := [25, 0xA0, 0x0F, 13, 0x88, 0x13, 99, 7, 0, 25, 0x70, 0x17]
    bodyCalibration (defaultMap.toList.flatMap pointBytes ++ tuples) =
      ⟨{ defaultParams with framePeriod := 6000, kpTilt := 4095 }, defaultMap⟩ := by decide +kernel

theorem test_image_length : (imageBytes defaultCalibration).length = 176 := by decide +kernel

/-! ### Commands, at most two each -/

theorem test_powerOnReset_finds_the_brake_closed :
    (ran (.powerOnReset ⟨⟨true, false⟩, ⟨false, false⟩, ⟨true, true⟩, ⟨false, false, false, false, false⟩⟩)
      parked).drives.brake.state = .engaged := by decide +kernel

/-- A command reset without a RESET reply in progress does not occur (log 3). -/
theorem test_commandReset_needs_its_reply : ran .commandReset parked = parked := by decide +kernel

theorem test_linkByte_start : (ran (.linkByte 0xC3) parked).link.receiver = .len := by decide +kernel

theorem test_linkByte_takes_a_status_request :
    ((frameLine ⟨0x34, []⟩).foldl (fun s b => ran (.linkByte b) s) parked).link.transmitter.map (·.current.kind) =
      some 0x80 := by decide +kernel

theorem test_gapTimerExpiry_drops_the_partial_frame :
    let s := { parked with link := { parked.link with receiver := .len, gapTimer := some 0 } }
    (ran .gapTimerExpiry s).link.receiver = .hunt := by decide +kernel

theorem test_unknownKind_is_refused :
    (ran (.unknownKind 0x05 []) (sending parked)).link.replyQueue = [.refused 0x05 .unknownKind] := by decide +kernel

/-- A roll of 800 against a linkage angle of 0: an eighth of the way from 0 is 100. -/
theorem test_motion_moves_the_camber :
    (ran (.motion [0, 0, 2, 0x20, 0x03]) parked).intake.cEst = 100 := by decide +kernel

theorem test_align_needs_sync :
    (ran (.align 7) (sending parked)).link.replyQueue = [.refused 0x02 .notSynced] := by decide +kernel

theorem test_ride_enters_unlocking : (ran .ride parked).regime.regime = .unlocking := by decide +kernel

theorem test_ride_is_refused_unhomed :
    (ran .ride (sending { parked with channels := State.reset.channels })).link.replyQueue =
      [.refused 0x10 .notHomed] := by decide +kernel

theorem test_park_aborts_a_release :
    (ran .park inRelease).regime.history = [⟨.parkRequest, .release, .capture, 384, 0, 150⟩] := by decide +kernel

theorem test_home_seeks : (ran .home parked).channels.tilt.state = .seeking := by decide +kernel

theorem test_clear_empties_the_history :
    (ran .clear { inRelease with regime := { inRelease.regime with regime := .safe, blend := none, history :=
      [⟨.driveFault, .freeLean, .safe, 1024, 1000, 5⟩] } }).regime.history = [] := by decide +kernel

theorem test_paramSet_out_of_range_takes_the_bound :
    (ran (.paramSet 5 120) (sending parked)).link.replyQueue = [.accepted (.paramSet 5 100 true)] := by decide +kernel

theorem test_paramSet_of_a_parked_only_id :
    (ran (.paramSet 21 2048) (sending (inRegime .freeLean parked))).link.replyQueue = [.refused 0x20 .wrongRegime] := by
  decide +kernel

theorem test_paramGet_of_id_1 :
    (ran (.paramGet 1) (sending parked)).link.replyQueue = [.accepted (.paramGet 1 7000)] := by decide +kernel

theorem test_mapSet_clamps_point_8 :
    (ran (.mapSet 8 2400 200 384 5000) (sending parked)).link.replyQueue =
      [.accepted (.mapSet 8 ⟨2000, 200, 384, 4254⟩ 9)] := by decide +kernel

theorem test_mapSet_out_of_order :
    (ran (.mapSet 3 700 1800 64 1800) (sending parked)).link.replyQueue = [.refused 0x22 .order] := by decide +kernel

theorem test_mapGet_of_point_9 :
    (ran (.mapGet 9) (sending parked)).link.replyQueue = [.refused 0x23 .badValue] := by decide +kernel

theorem test_counterSet_drops_unnamed_mask_bits :
    (ran (.counterSet 2 2 0xFE 0 4 1) parked).counters.counters[2].config = ⟨some .steerClamp, 2, .count, 4, .notify⟩ := by
  decide +kernel

theorem test_counterSet_of_a_wrong_mode :
    (ran (.counterSet 2 2 3 2 4 1) (sending parked)).link.replyQueue = [.refused 0x30 .badValue] := by decide +kernel

theorem test_counterRead_after_reset :
    (ran .counterRead (sending parked)).link.replyQueue =
      [.accepted (.counterRead (List.replicate 8 (0, false)))] := by decide +kernel

theorem test_counterClear_clears_the_named :
    let c : Counter := ⟨⟨some .strobe, 7, .count, 0, .none⟩, 5, false, 0, none⟩
    let s := { parked with counters := { parked.counters with counters := Vector.replicate 8 c } }
    ((ran (.counterClear 4) s).counters.counters.toList.map (·.value)) = [5, 5, 0, 5, 5, 5, 5, 5] := by decide +kernel

theorem test_historyRead_of_an_empty_history :
    (ran .historyRead parked).link.transmitter = some ⟨⟨0x80, [0x33, 0, 0]⟩, []⟩ := by decide +kernel

theorem test_status_has_35_bytes :
    ((ran .status parked).link.transmitter.map (·.current.payload.length)) = some 36 := by decide +kernel

theorem test_save_takes_a_snapshot : (ran .save parked).store.snapshot = some defaultCalibration := by decide +kernel

theorem test_load_is_busy_while_saving :
    (ran .load (sending { parked with store := { parked.store with state := .saving } })).link.replyQueue =
      [.refused 0x41 .busy] := by decide +kernel

theorem test_reset_closes_handover : (ran .reset parked).link.handover = .closed := by decide +kernel

theorem test_transmitEnd_of_the_reset_reply_resets :
    (ran .transmitEnd (ran .reset (rolling 20 parked))).wheels = State.reset.wheels := by decide +kernel

theorem test_statusTimerExpiry_sends_a_report :
    ((ran .statusTimerExpiry { parked with link := { parked.link with statusTimer := some 0 } }).link.transmitter.map
      (·.current.kind)) = some 0xA0 := by decide +kernel

theorem test_strobe_starts_a_grid : (ran .strobe parked).timeBase.sync = .syncing := by decide +kernel

theorem test_missedStrobe_leaves_the_boundary_W_back :
    let s := { atTime 5050 parked with timeBase := ⟨5050, .locked, 10, some 0, true, 4, 0⟩ }
    (ran .missedStrobe s).timeBase = ⟨5050, .locked, 11, some 5000, true, 4, 1⟩ := by decide +kernel

theorem test_freshnessDeadlineExpiry_is_stale :
    let s := { parked with intake := { parked.intake with deadline := some 0, latestRoll := some .aged } }
    quality s = .fresh ∧ quality (ran .freshnessDeadlineExpiry s) = .stale := by decide +kernel

/-- Homing TILT from the negative side (04 §4.8). -/
theorem test_lineEvent_homes_tilt :
    let ch : Channel := ⟨.seeking, -3710, .positive, ⟨false, true⟩, 0, none, none⟩
    let t := ran (.lineEvent .tilt ⟨false, false⟩ true) { parked with channels := { parked.channels with tilt := ch } }
    t.channels.tilt = ⟨.homed, 0, .positive, ⟨false, false⟩, 0, none, none⟩ := by decide +kernel

theorem test_lineEvent_illegal_is_suspect :
    (ran (.lineEvent .steer ⟨true, true⟩ false) parked).channels.steer =
      ⟨.suspect, 0, .positive, ⟨true, true⟩, 1, none, some 0⟩ := by decide +kernel

theorem test_suspectTimerExpiry_faults_the_channel :
    let ch : Channel := ⟨.suspect, 80, .positive, ⟨true, true⟩, 3, none, some 41250000⟩
    let s := atTime 51250000 (riding .freeLean { parked with channels := { parked.channels with steer := ch } })
    let t := ran (.suspectTimerExpiry .steer) s
    (t.channels.steer.state, t.regime.regime, t.drives.steer.mode) = (.fault, .safe, .off) := by decide +kernel

theorem test_wheelEdge_glitch :
    let s := atTime 99 (rolling 1000 parked)
    (ran (.wheelEdge .fl) s).wheels = s.wheels := by decide +kernel

theorem test_wheelEdge_measures :
    (ran (.wheelEdge .fl) (atTime 2708 (rolling 500 parked))).wheels.fl = ⟨.rolling, 2708, some 2708, 1000⟩ := by
  decide +kernel

theorem test_stopTimerExpiry_stops :
    (ran (.stopTimerExpiry .rr) (atTime 250000 (rolling 500 parked))).wheels.rr = ⟨.stopped, 0, none, 0⟩ := by
  decide +kernel

theorem test_lawExpiry_restarts_its_timer :
    (ran .lawExpiry { parked with law := { parked.law with timer := some 0 } }).law.timer = some 2000 := by decide +kernel

theorem test_releaseBlendExpiry_is_free_lean :
    (ran .releaseBlendExpiry (atTime 400000 inRelease)).regime.regime = .freeLean := by decide +kernel

theorem test_captureBlendExpiry_holds_upright :
    let s := riding .capture (atTime 1337004 parked)
    (ran .captureBlendExpiry { s with regime := { s.regime with blend := some ⟨.capture, 962004, 384, 1000, 1337004⟩ } }
      ).regime.regime = .uprightHold := by decide +kernel

theorem test_leaveInit_starts_the_law :
    let t := ran .leaveInit (inRegime .init parked)
    (t.regime.regime, t.law.timer) = (.parked, some 2000) := by decide +kernel

theorem test_brakeReleased_holds_upright :
    (ran (.brakeReleased false false) (riding .unlocking parked)).regime.regime = .uprightHold := by decide +kernel

theorem test_brakeEngaged_parks :
    (ran .brakeEngaged (inRegime .locking parked)).regime.regime = .parked := by decide +kernel

theorem test_pwmBoundary_takes_the_shadow :
    let t := ran (.pwmBoundary false false) (atTime 50 (withTilt { resetDrive with mode := .run, shadow := 95 } parked))
    (t.drives.tilt.active, t.drives.tilt.dir) = (95, true) := by decide +kernel

theorem test_loopExpiry_creeps :
    let s := atTime 500 (withTilt { resetDrive with mode := .creep } parked)
    ((ran (.loopExpiry true false) s).drives.tilt.shadow, (ran (.loopExpiry false false) s).drives.tilt.shadow) =
      (-120, 120) := by decide +kernel

theorem test_overcurrentCut_counts :
    let t := ran (.overcurrentCut .tilt) (withTilt { resetDrive with mode := .run, active := 500 } parked)
    (t.drives.tilt.cutRun, t.drives.tilt.cutFlag) = (1, true) := by decide +kernel

theorem test_overcurrentCut_400_is_overload :
    (ran (.overcurrentCut .tilt) (withTilt { resetDrive with mode := .run, active := 500, cutRun := 399 } parked)
      ).drives.tilt.mode = .fault := by decide +kernel

theorem test_creepTimerExpiry_faults_the_channel :
    let s := withTilt { resetDrive with mode := .creep, creepTimer := some 0 } (inRegime .homing parked)
    let seeking := { s with
      channels := { s.channels with tilt := { s.channels.tilt with state := .seeking } }
      regime := { s.regime with phase := some .creep } }
    let t := ran (.creepTimerExpiry .tilt) seeking
    (t.channels.tilt.state, t.drives.tilt.mode, t.regime.phase) = (.fault, .off, some .engaging) := by decide +kernel

theorem test_brksRise_completes_a_release :
    (ran .brksRise (withBrake ⟨.releasing, true, some 150000⟩ parked)).drives.brake = ⟨.released, true, none⟩ := by
  decide +kernel

theorem test_brksFall_contradicts_released :
    let t := ran .brksFall (riding .freeLean parked)
    (t.drives.brake.state, t.regime.regime) = (.brakeFault, .safe) := by decide +kernel

theorem test_brakeTimerExpiry_of_a_release :
    (ran .brakeTimerExpiry (withBrake ⟨.releasing, true, some 0⟩ (inRegime .unlocking parked))).regime.regime = .safe := by
  decide +kernel

/-- The stretch of true time from 20 026 500 (08 §8.6). -/
theorem test_millisecondTimerExpiry_counts :
    let c : Counter := ⟨⟨some .slipActive, 3, .duration, 0, .none⟩, 0, false, 0, some 20026500⟩
    let s := { atTime 20027500 parked with counters := { parked.counters with counters := Vector.replicate 8 c } }
    (ran (.millisecondTimerExpiry 3) s).counters.counters[3] = { c with value := 1, mark := some 20027500 } := by
  decide +kernel

/-- The whole stretch and the remainder of the second one (08 §8.6). -/
theorem test_duration_with_a_remainder :
    let c : Counter := ⟨⟨some .slipActive, 3, .duration, 0, .none⟩, 3, false, 0, some 20029500⟩
    (conditionFalls 20030250 c).1 = { c with remainder := 750, mark := none } ∧
    (conditionFalls 20100900 { c with value := 4, mark := some 20100250 }).1 =
      { c with value := 4, remainder := 650, mark := none } := by decide +kernel

theorem test_readStatusDone_ready :
    (ran (.readStatusDone 0x02) (withStep .loadPoll parked)).store.step = some .loadHeader := by decide +kernel

theorem test_pollLimitExpiry_fails :
    (ran .pollLimitExpiry { parked with store := { powerOnStore with pollLimit := some 0 } }).store.state = .failed := by
  decide +kernel

theorem test_headerReadDone_empty :
    (ran (.headerReadDone #v[0xFF, 0xFF, 0, 0, 0, 0, 0, 0]) (withStep .loadHeader parked)).store.state = .idle := by
  decide +kernel

theorem test_bodyReadDone_of_a_damaged_body :
    (ran (.bodyReadDone (List.replicate 72 0)) (withStep (.loadBody 0 0) parked)).store.state = .failed := by
  decide +kernel

theorem test_writeEnableDone_erases :
    (ran .writeEnableDone (withStep .saveEnableErase parked)).store.step = some .saveErase := by decide +kernel

theorem test_sectorEraseDone_polls :
    (ran .sectorEraseDone (withStep .saveErase parked)).store.pollLimit = some 1000000 := by decide +kernel

theorem test_pageProgramDone_polls :
    (ran .pageProgramDone (withStep .saveProgram parked)).store.step = some .savePollThird := by decide +kernel

theorem test_verifyReadDone_differs :
    (ran (.verifyReadDone (Vector.replicate 176 0))
      (withStep .saveVerify { parked with store := { parked.store with snapshot := some defaultCalibration } })).store.state
      = .failed := by decide +kernel

/-! ### Witnesses: states and operands that meet the hypotheses of each clause of each statement

StepRunsTheFrontCommand, ResetValues, ResetIsSafe, ReleaseInhibition and LineEvents have no hypotheses. -/

theorem takes {s : State} (h : s.link = parked.link) : TakesAtOnce s := by
  constructor <;> rw [h] <;> decide

def withRegime (f : RegimeControl → RegimeControl) (s : State) : State := { s with regime := f s.regime }

def withLink (f : Link → Link) (s : State) : State := { s with link := f s.link }

def withStore (f : Store → Store) (s : State) : State := { s with store := f s.store }

def withSync (t : TimeBase) (s : State) : State := { s with timeBase := t }

def withIntake (i : Intake) (s : State) : State := { s with intake := i }

def withTiltChannel (c : Channel) (s : State) : State := { s with channels := { s.channels with tilt := c } }

def channelIn (state : ChannelState) (count : BitVec 32) : Channel :=
  ⟨state, count, .positive, ⟨false, false⟩, 0, none, if state = .suspect then some 0 else none⟩

/-- A homing that creeps both shafts. -/
def creeping : State :=
  let s := withRegime (fun r => { r with regime := .homing, phase := some .creep }) (withBrake ⟨.released, true, none⟩ parked)
  { s with
    channels := ⟨channelIn .seeking 0, channelIn .seeking 0, channelIn .homed 0⟩
    drives := { s.drives with
      tilt := { resetDrive with mode := .creep, creepTimer := some 0 }
      steer := { resetDrive with mode := .creep, creepTimer := some 0 } } }

theorem witness_StepOnAnEmptyQueue :
    (parked.pending = [] ∧ nextDue parked = none) ∧
    ∃ s c, s.pending = [] ∧ nextDue s = some c ∧ isDue s c :=
  ⟨by decide +kernel, inRegime .init parked, .leaveInit, by decide +kernel, by decide +kernel,
   show (Regime.init = .init ∧ _) from ⟨rfl, by decide +kernel⟩⟩

theorem witness_ResetStates :
    ∃ s : State, s.link.handover = .closed ∧ s.link.transmitter = some ⟨⟨0x80, [0x7F]⟩, []⟩ :=
  ⟨ran .reset parked, by decide +kernel⟩

theorem parked_link : LinkSafe parked.link := by
  refine ⟨by decide, by decide, by decide, trivial, fun _ => ⟨rfl, rfl, rfl, rfl, rfl, rfl, rfl⟩, ?_⟩
  intro f rest h
  exact absurd h (by simp [parked, State.reset, resetLink])

theorem default_calibration : CalibrationSafe defaultCalibration := by
  refine ⟨?_, by decide, by decide, by decide, by decide⟩
  intro p
  cases p <;> exact .inl (by decide)

theorem parked_store : StoreSafe parked.store := by
  refine ⟨by decide, by decide, by decide, fun _ => rfl, ?_, ?_, ?_, default_calibration, ?_⟩
  · intro h; exact absurd h (by decide)
  · intro h; exact absurd h (by decide)
  · exact ⟨fun h => absurd h (by decide), fun ⟨_, h, _⟩ => absurd h (by simp [parked, commandResetStore])⟩
  · intro c h; exact absurd h (by simp [parked, commandResetStore])

theorem parked_limits : LimitsSafe parked :=
  ⟨by decide, by decide, by decide, ⟨by decide, by decide⟩, ⟨by decide, by decide⟩⟩

theorem parked_regime : RegimeSafe parked := by
  refine ⟨?_, ?_, ?_, by decide, by decide, by decide, by decide, fun _ h => absurd h (by simp [parked, State.reset, resetRegime]), by decide⟩
  · exact ⟨fun h => absurd h (by decide), fun ⟨_, h, _⟩ => absurd h (by simp [parked, State.reset, resetRegime])⟩
  · exact ⟨fun h => absurd h (by decide), fun ⟨_, h, _⟩ => absurd h (by simp [parked, State.reset, resetRegime])⟩
  · intro b h; exact absurd h (by simp [parked, State.reset, resetRegime])

theorem idle_drive : DriveSafe resetDrive := by
  refine ⟨by decide, by decide, by decide, by decide, by decide⟩

theorem parked_drives : DrivesSafe parked :=
  ⟨idle_drive, idle_drive, by decide, by decide, by decide, by decide⟩

theorem parked_conditions : ConditionsSafe parked := by unfold ConditionsSafe; decide +kernel

theorem still_wheel : WheelSafe resetWheel := ⟨by decide, by decide, by decide⟩

theorem unused_counter (t : Conditions) : CounterSafe t resetCounter :=
  ⟨by decide, by decide, by decide, fun _ h => absurd h (by simp [resetCounter, resetConfig]), fun _ => ⟨rfl, rfl⟩,
   by simp [resetCounter, resetConfig]⟩

theorem parked_records : RecordsSafe parked := by
  refine ⟨⟨by decide, by decide⟩, ⟨by decide, by decide⟩, ⟨by decide, by decide⟩, still_wheel, still_wheel, still_wheel,
    ⟨by decide, by decide, by decide, by decide, by decide⟩, ⟨by decide, by decide, by decide⟩, ?_⟩
  intro c h
  have : c = resetCounter := by
    have : c ∈ List.replicate 8 resetCounter := h
    exact List.eq_of_mem_replicate this
  exact this ▸ unused_counter _

/-- A safe state that takes a step: the hypotheses of the seven statements StepKeeps…. -/
theorem witness_StepKeeps :
    LinkSafe parked.link ∧ StoreSafe parked.store ∧ LimitsSafe parked ∧ RegimeSafe parked ∧ DrivesSafe parked ∧
      ConditionsSafe parked ∧ RecordsSafe parked ∧ ∃ t, step parked = .next t :=
  ⟨parked_link, parked_store, parked_limits, parked_regime, parked_drives, parked_conditions, parked_records,
   _, by rw [step]; rfl⟩

theorem witness_RegimeChangesFollowTheTable :
    parked.link.receiveQueue = [] ∧ exec .ride parked = .next (ran .ride parked) ∧
      (ran .ride parked).regime.regime = .unlocking ∧ parked.regime.regime ≠ .unlocking :=
  ⟨rfl, rfl, by decide +kernel⟩

theorem witness_FramesRoundTrip : ∃ (f : Frame) (s : State), f.payload.length ≤ 48 ∧ s.link.receiver = .hunt :=
  ⟨⟨0x34, List.replicate 48 0⟩, parked, by decide⟩

/-- The ids 0, 1, 32, 33 and the points 8, 9 of GetRequests. -/
theorem witness_GetRequests :
    TakesAtOnce parked ∧ (1#8).toNat = (paramRow .aMax).id ∧ (32#8).toNat = (paramRow .camberLimit).id ∧
      (0#8).toNat = 0 ∧ 32 < (33#8).toNat ∧ (8#8).toNat < 9 ∧ 9 ≤ (9#8).toNat :=
  ⟨takes rfl, by decide⟩

theorem witness_OperandsRoundTrip : TakesAtOnce parked := takes rfl

theorem witness_ReadRequests : TakesAtOnce parked := takes rfl

/-- A header cut from the image. -/
theorem witness_SavedImageLoadsBack :
    CalibrationSafe defaultCalibration ∧
    (∃ header : Vector Byte 8, header.toList = (imageBytes defaultCalibration).take 8) ∧
    (withStep .loadHeader parked).store.step = some .loadHeader :=
  ⟨default_calibration, ⟨⟨((imageBytes defaultCalibration).take 8).toArray, by rfl⟩, rfl⟩, rfl⟩

/-- Every receiver state, with LEN 48 and 49, a payload whose last byte comes, both verdicts on a CRC, and a full queue. -/
theorem witness_LinkReception :
    parked.link.receiver = .hunt ∧ (0xC3 : Byte) = 0xC3 ∧ (0xC2 : Byte) ≠ 0xC3 ∧
    (withReceiver .len parked).link.receiver = .len ∧ (48#8).toNat ≤ 48 ∧ 48 < (49#8).toNat ∧
    (withReceiver (.kind 0) parked).link.receiver = .kind 0 ∧
    (withReceiver (.kind 48) parked).link.receiver = .kind 48 ∧
    (withReceiver (.payload 48 0x01 (List.replicate 47 0)) parked).link.receiver = .payload 48 0x01 (List.replicate 47 0) ∧
    (List.replicate 47 (0 : Byte)).length < 48 ∧
    (withReceiver (.crcHi 0x34 []) parked).link.receiver = .crcHi 0x34 [] ∧
    (withReceiver (.crcLo 0x34 [] 0x6B) parked).link.receiver = .crcLo 0x34 [] 0x6B ∧
    frameCrc 0x34 [] ≠ (0x6B : Byte) ++ (0xD9 : Byte) ∧ frameCrc 0x34 [] = (0x6B : Byte) ++ (0xD8 : Byte) ∧
    (withLink (fun l => { l with receiveQueue := List.replicate 3 ⟨0x34, []⟩ }) parked).link.receiveQueue.length < 4 ∧
    4 ≤ (withLink (fun l => { l with receiveQueue := List.replicate 4 ⟨0x34, []⟩ }) parked).link.receiveQueue.length ∧
    (withLink (fun l => { l with gapTimer := some 0 }) parked).link.gapTimer = some (now parked) := by
  decide +kernel

/-- A reply queue of 4 makes a request wait, in a receive queue of 3 and of 4. -/
def waiting (n : Nat) : State :=
  withLink (fun l => { l with
    transmitter := some ⟨⟨0xA0, []⟩, []⟩
    replyQueue := List.replicate 4 (.refused 0x05 .unknownKind)
    receiveQueue := List.replicate n ⟨0x34, []⟩ }) parked

theorem waiting_waits (n : Nat) (f g : Frame) (rest : List Frame)
    (h : (waiting (n + 1)).link.receiveQueue ++ [f] = g :: rest) : mayTake g (waiting (n + 1)).link = false := by
  have h' : (⟨0x34, []⟩ : Frame) :: (List.replicate n ⟨0x34, []⟩ ++ [f]) = g :: rest := h
  injection h' with h₁ h₂
  rw [← h₁]
  rfl

theorem witness_Handovers :
    (TakesAtOnce parked ∧ (0x05 : Byte) ∉ requestKindCodes) ∧
    (requiredLength .align = some 2 ∧ ([] : List Byte).length ≠ 2 ∧ (List.replicate 3 (0 : Byte)).length ≠ 2) ∧
    requestFrame .status = some ⟨0x34, []⟩ ∧
    (∀ g rest, (waiting 3).link.receiveQueue ++ [⟨0x34, []⟩] = g :: rest → mayTake g (waiting 3).link = false) ∧
    (waiting 3).link.receiveQueue.length < 4 ∧
    (∀ g rest, (waiting 4).link.receiveQueue ++ [⟨0x34, []⟩] = g :: rest → mayTake g (waiting 4).link = false) ∧
    4 ≤ (waiting 4).link.receiveQueue.length :=
  ⟨⟨takes rfl, by decide⟩, by decide, rfl, waiting_waits 2 _, by decide, waiting_waits 3 _, by decide⟩

/-- Handover OPENED and CLOSED; queues of no frame, of one and of four; a MOTION frame that waits; room for a reply and none. -/
theorem witness_TransmitterEvents :
    (withLink (fun l => { l with statusTimer := some 0 }) parked).link.statusTimer = some (now parked) ∧
    parked.link.handover = .opened ∧ parked.link.transmitter = none ∧
    (withLink (fun l => { l with transmitter := some ⟨⟨0x80, [0x33]⟩, [⟨0x80, [0x33]⟩]⟩ }) parked).link.transmitter =
      some ⟨⟨0x80, [0x33]⟩, ⟨0x80, [0x33]⟩ :: []⟩ ∧
    (sending parked).link.transmitter = some ⟨⟨0xA0, []⟩, []⟩ ∧ (sending parked).link.receiveQueue = [] ∧
    (waiting 1).link.transmitter = some ⟨⟨0xA0, []⟩, []⟩ ∧ (waiting 1).link.receiveQueue = [⟨0x34, []⟩] ∧
    (waiting 1).link.replyQueue.length = 4 ∧ (waiting 1).link.handover = .opened ∧
    (waiting 4).link.receiveQueue = ⟨0x34, []⟩ :: List.replicate 3 ⟨0x34, []⟩ ∧
    ((⟨0x34, []⟩ : Frame).kind ≠ 0x01 ∧ 4 ≤ (waiting 4).link.replyQueue.length) ∧
    (withLink (fun l => { l with replyQueue := [] }) (waiting 4)).link.replyQueue.length < 4 ∧
    (let s := withLink (fun l => { l with receiveQueue := ⟨0x01, []⟩ :: l.receiveQueue }) (waiting 3)
     s.link.handover = .opened ∧ s.link.receiveQueue = ⟨0x01, []⟩ :: List.replicate 3 ⟨0x34, []⟩) ∧
    (let s := withLink (fun l => { l with handover := .closed }) (waiting 4)
     s.link.handover = .closed ∧ s.link.transmitter = some ⟨⟨0xA0, []⟩, []⟩ ∧
       (⟨0xA0, []⟩ : Frame) ≠ ⟨0x80, [0x7F]⟩) ∧
    (frameLine ⟨0xA0, []⟩)[0]? = some (0xC3 : Byte) ∧ ((frameLine ⟨0xA0, []⟩)[4]?).isSome = true ∧
      (frameLine ⟨0xA0, []⟩).length = 5 := by
  decide +kernel

theorem witness_SelectionOrder :
    let l := parked.link
    let r : Reply := .refused 0x05 .unknownKind
    let notice : TimebaseNotice := ⟨.locked, .syncing, 4, false, 0⟩
    (sending parked).link.transmitter.isSome = true ∧ l.transmitter = none ∧
    ({ l with replyQueue := [r, r] } : Link).replyQueue = r :: [r] ∧ l.replyQueue = [] ∧
    ({ l with regimeSlot := some ⟨.parked, .init, none, 0, 0⟩ } : Link).regimeSlot.isSome = true ∧
    ({ l with faultSlot := some ⟨.brake, .senseLost, 0, .safe, 0⟩ } : Link).faultSlot.isSome = true ∧
    ({ l with storeSlot := some ⟨.save, .done, .idle, 0⟩ } : Link).storeSlot.isSome = true ∧
    ({ l with thresholdSlot := some ⟨4, 0⟩ } : Link).thresholdSlot.isSome = true ∧
    ({ l with timebaseSlot := some notice } : Link).timebaseSlot = some notice ∧
    ({ l with statusSlot := some (statusRecord parked) } : Link).statusSlot = some (statusRecord parked) ∧
    l.regimeSlot = none ∧ l.faultSlot = none ∧ l.storeSlot = none ∧ l.thresholdSlot = none ∧ l.timebaseSlot = none := by
  decide +kernel

theorem witness_nothing_pending : NothingPending parked.link := ⟨rfl, rfl, rfl, rfl, rfl, rfl, rfl⟩

/-- Eight records, the longest history, and the eight counters. -/
theorem witness_RepliesFitTheirFrames :
    let record : AbortRecord := ⟨.slip, .release, .capture, 0, 0, 0⟩
    (∀ records, (Reply.accepted (.historyRead (List.replicate 8 record))) = .accepted (.historyRead records) →
      records.length ≤ 8) ∧
    (∀ values, (Reply.accepted (.counterRead (List.replicate 8 (0, false)))) = .accepted (.counterRead values) →
      values.length = 8) := by
  constructor <;> intro x h <;> cases h <;> decide

theorem witness_ResetRequest :
    (TakesAtOnce parked ∧ parked.regime.regime = .parked) ∧
    (∃ s, TakesAtOnce s ∧ s.regime.regime = .safe ∧ (selectedSpeed s).getD 0 < (par s).vPark) ∧
    (∃ s, TakesAtOnce s ∧
      ¬ (s.regime.regime = .parked ∨ (s.regime.regime = .safe ∧ (selectedSpeed s).getD 0 < (par s).vPark))) :=
  ⟨⟨takes rfl, rfl⟩, ⟨inRegime .safe (rolling 29 parked), takes rfl, by decide +kernel⟩,
   ⟨inRegime .safe (rolling 30 parked), takes rfl, by decide +kernel⟩⟩

theorem witness_AlignRequest :
    (∃ s, TakesAtOnce s ∧ s.regime.regime = .init) ∧
    (∃ s, TakesAtOnce s ∧ s.regime.regime ≠ .init ∧ s.timeBase.sync = .unsynced) ∧
    (∃ s, TakesAtOnce s ∧ s.regime.regime ≠ .init ∧ s.timeBase.sync ≠ .unsynced) :=
  ⟨⟨inRegime .init parked, takes rfl, rfl⟩, ⟨parked, takes rfl, by decide⟩,
   ⟨withSync ⟨50, .syncing, 0, some 0, false, 1, 0⟩ parked, takes rfl, by decide⟩⟩

theorem witness_RideRequest :
    (∃ s, TakesAtOnce s ∧ s.regime.regime = .locking) ∧
    (∃ s, TakesAtOnce s ∧ s.regime.regime ≠ .homing ∧ s.regime.regime ≠ .locking ∧ s.regime.regime ≠ .parked) ∧
    (∃ s, TakesAtOnce s ∧ s.regime.regime = .parked ∧ s.store.state = .saving) ∧
    (∃ s, TakesAtOnce s ∧ s.regime.regime = .parked ∧ s.store.state = .failed ∧ allHomed s = false) ∧
    (∃ s, TakesAtOnce s ∧ s.regime.regime = .parked ∧ s.store.state = .idle ∧ allHomed s = true ∧
      s.drives.brake.state ≠ .engaged) ∧
    (∃ s, TakesAtOnce s ∧ s.regime.regime = .parked ∧ s.store.state = .idle ∧ allHomed s = true ∧ faultLatched s = false ∧
      s.drives.brake.state = .engaged ∧ selectedSpeed s = some 30 ∧ (par s).vPark ≤ 30) ∧
    (∃ s, TakesAtOnce s ∧ s.regime.regime = .parked ∧ s.store.state = .idle ∧ allHomed s = true ∧ faultLatched s = false ∧
      s.drives.brake.state = .engaged ∧ selectedSpeed s = some 29 ∧ 29 < (par s).vPark ∧ s.drives.tilt.mode = .off ∧
      s.drives.steer.mode = .off) :=
  ⟨⟨inRegime .locking parked, takes rfl, rfl⟩, ⟨inRegime .init parked, takes rfl, by decide⟩,
   ⟨withStore (fun t => { t with state := .saving }) parked, takes rfl, by decide⟩,
   ⟨withStore (fun t => { t with state := .failed }) (withTiltChannel (channelIn .unhomed 0) parked), takes rfl,
    by decide +kernel⟩,
   ⟨withBrake ⟨.engaging, false, some 0⟩ parked, takes rfl, by decide +kernel⟩,
   ⟨rolling 30 parked, takes rfl, by decide +kernel⟩, ⟨rolling 29 parked, takes rfl, by decide +kernel⟩⟩

theorem witness_ParkRequest :
    (TakesAtOnce parked ∧ parked.regime.regime = .parked) ∧
    (∃ s, TakesAtOnce s ∧ s.regime.regime = .unlocking) ∧
    (∃ s, TakesAtOnce s ∧ s.regime.regime = .uprightHold ∧ (selectedSpeed s).getD 0 < (par s).vPark) ∧
    (∃ s, TakesAtOnce s ∧ s.regime.regime = .uprightHold ∧ (par s).vPark ≤ (selectedSpeed s).getD 0) ∧
    (∀ r : Regime, TakesAtOnce (inRegime r parked) ∧ (inRegime r parked).regime.regime = r) :=
  ⟨⟨takes rfl, rfl⟩, ⟨inRegime .unlocking parked, takes rfl, rfl⟩,
   ⟨inRegime .uprightHold (rolling 29 parked), takes rfl, by decide +kernel⟩,
   ⟨inRegime .uprightHold (rolling 30 parked), takes rfl, by decide +kernel⟩, fun _ => ⟨takes rfl, rfl⟩⟩

/-- α 1 at 391 µs of 400 ms, and α 0 a microsecond before it. -/
theorem witness_ParkAbortsARelease :
    ∀ t, t = 390 ∨ t = 391 →
      let s := withRegime (fun r => { r with blend := some releasing }) (inRegime .release (atTime (BitVec.ofNat 48 t) parked))
      TakesAtOnce s ∧ s.regime.regime = .release ∧ s.regime.blend = some releasing ∧ s.regime.history.length ≤ 8 ∧
        min 1024 (1024 * elapsed releasing.t0 (now s) / (1000 * releasing.tBlend)) = t - 390 := by
  intro t h
  rcases h with rfl | rfl <;> exact ⟨takes rfl, by decide +kernel⟩

theorem witness_HomeRequest :
    (∃ s, TakesAtOnce s ∧ s.regime.regime ≠ .parked) ∧
    (∃ s, TakesAtOnce s ∧ s.regime.regime = .parked ∧ s.store.state = .loading) ∧
    (∃ s, TakesAtOnce s ∧ s.regime.regime = .parked ∧ s.store.state = .failed ∧ s.drives.brake.state ≠ .engaged) ∧
    (TakesAtOnce parked ∧ parked.regime.regime = .parked ∧ parked.store.state = .idle ∧
      parked.drives.brake.state = .engaged) :=
  ⟨⟨inRegime .safe parked, takes rfl, by decide⟩,
   ⟨withStore (fun t => { t with state := .loading }) parked, takes rfl, by decide⟩,
   ⟨withStore (fun t => { t with state := .failed }) (withBrake ⟨.brakeFault, false, none⟩ parked), takes rfl, by decide⟩,
   takes rfl, by decide⟩

/-- Two INVALID wheels leave no speed. -/
def noSpeed (s : State) : State :=
  { s with wheels := ⟨⟨.invalid, 0, none, 0⟩, ⟨.invalid, 0, none, 0⟩, ⟨.invalid, 0, none, 0⟩, false, none⟩ }

theorem witness_ClearRequest :
    (∃ s, TakesAtOnce s ∧ s.regime.regime = .homing) ∧
    (∃ s, TakesAtOnce s ∧ s.regime.regime ≠ .homing ∧ s.regime.regime ≠ .parked ∧ s.regime.regime ≠ .safe) ∧
    (∃ s, TakesAtOnce s ∧ s.regime.regime = .safe ∧ selectedSpeed s = none) ∧
    (∃ s, TakesAtOnce s ∧ s.regime.regime = .safe ∧ selectedSpeed s = some 30 ∧ (par s).vPark ≤ 30) ∧
    (∃ s, TakesAtOnce s ∧ s.regime.regime = .safe ∧ selectedSpeed s = some 29 ∧ 29 < (par s).vPark) ∧
    (∃ s, TakesAtOnce s ∧ s.regime.regime = .parked ∧ selectedSpeed s = some 0 ∧ s.wheels.slip = true ∧
      s.wheels.fl.state = .stopped ∧ s.wheels.fr.state = .stopped ∧ s.wheels.rr.state = .stopped) :=
  ⟨⟨inRegime .homing parked, takes rfl, rfl⟩, ⟨inRegime .init parked, takes rfl, by decide⟩,
   ⟨inRegime .safe (noSpeed parked), takes rfl, by decide +kernel⟩,
   ⟨inRegime .safe (rolling 30 parked), takes rfl, by decide +kernel⟩,
   ⟨inRegime .safe (rolling 29 parked), takes rfl, by decide +kernel⟩,
   ⟨{ parked with wheels := { parked.wheels with slip := true } }, takes rfl, by decide +kernel⟩⟩

theorem witness_LeaveInit :
    (inRegime .init parked).regime.regime = .init ∧ (inRegime .init parked).store.operation ≠ some .startUp ∧
      ∀ d, (getDrive (inRegime .init parked) d).mode = .off ∨ (getDrive (inRegime .init parked) d).mode = .fault :=
  ⟨rfl, by decide, fun d => by cases d <;> exact .inl rfl⟩

theorem witness_BlendsRunTheirCourse :
    (let s := withRegime (fun r => { r with blend := some releasing }) (inRegime .release (atTime 400000 parked))
     s.regime.blend = some releasing ∧ releasing.expiry = now s ∧ s.regime.regime = .release ∧ releasing.kind = .release) ∧
    (let b : Blend := ⟨.capture, 0, 1024, 400, 400000⟩
     let s := withRegime (fun r => { r with blend := some b }) (inRegime .capture (atTime 400000 parked))
     s.regime.blend = some b ∧ b.expiry = now s ∧ s.regime.regime = .capture ∧ b.kind = .capture) ∧
    (100 ≤ (par parked).tBlend ∧ (par parked).tBlend ≤ 2000 ∧ 1024 ≤ 1024 ∧ 99999999 < 100000000) := by
  decide +kernel

/-- Everything a release needs, with or without a dwell that began at a time. -/
def upright (dwell : Option Time) (t : Time) (q : Intake) : State :=
  withIntake q (withRegime (fun r => { r with regime := .uprightHold, dwellStart := dwell }) (atTime t parked))

def freshIntake : Intake := ⟨some 20000000, some .aged, 0, 0, 0, false⟩

theorem witness_SamplesInUprightHold :
    let sample : Sample := ⟨250, false, 0⟩
    let conditions (x : Sample) (s : State) := (par s).vFree ≤ x.vLaw ∧ quality s ≠ .stale ∧ s.wheels.slip = false ∧
      s.intake.yawSlip = false ∧ s.channels.tilt.state = .homed ∧ s.channels.steer.state = .homed ∧
      s.channels.bar.state = .homed ∧ inhibitedAt s.regime.history (msOf (now s)) = false
    sample.unknown = false ∧ (upright none 0 freshIntake).regime.regime = .uprightHold ∧
    ¬ conditions ⟨249, false, 0⟩ (upright none 0 freshIntake) ∧ ¬ conditions sample (upright none 0 resetIntake) ∧
    conditions sample (upright none 0 freshIntake) ∧ (upright none 0 freshIntake).regime.dwellStart = none ∧
    (let s := upright (some 0) 199999 freshIntake
     conditions sample s ∧ s.regime.dwellStart = some 0 ∧ elapsed 0 (now s) < (par s).tDwell * 1000) ∧
    (let s := upright (some 0) 200000 freshIntake
     conditions sample s ∧ s.regime.dwellStart = some 0 ∧ (par s).tDwell * 1000 ≤ elapsed 0 (now s)) := by
  decide +kernel

theorem witness_SamplesInRelease :
    let s := withIntake freshIntake inRelease
    let slow (x : Sample) (s : State) := x.vLaw < (par s).vLock
    let slip (s : State) := s.wheels.slip = true ∨ s.intake.yawSlip = true
    let fast (x : Sample) (s : State) := (par s).barRateAbort < x.barRate.natAbs
    let suspect (s : State) :=
      s.channels.tilt.state = .suspect ∨ s.channels.steer.state = .suspect ∨ s.channels.bar.state = .suspect
    let x : Sample := ⟨150, false, 20000⟩
    let y := withTiltChannel (channelIn .suspect 0) s
    (s.regime.regime = .release ∧ x.unknown = false) ∧
    slow ⟨149, false, 0⟩ s ∧ (¬ slow x inRelease ∧ quality inRelease = .stale) ∧
    (let w := withIntake { freshIntake with yawSlip := true } s
     ¬ slow x w ∧ quality w ≠ .stale ∧ slip w) ∧
    (¬ slow x s ∧ quality s ≠ .stale ∧ ¬ slip s ∧ fast ⟨150, false, -20001⟩ s) ∧
    (¬ slow x y ∧ quality y ≠ .stale ∧ ¬ slip y ∧ ¬ fast x y ∧ suspect y) ∧
    (¬ slow x s ∧ quality s ≠ .stale ∧ ¬ slip s ∧ ¬ fast x s ∧ ¬ suspect s) := by
  decide +kernel

theorem witness_SamplesElsewhere :
    (∀ r s, (inRegime r s).regime.regime = r) ∧
    (par parked).vLock ≤ (⟨150, false, 0⟩ : Sample).vLaw ∧ (⟨149, false, 0⟩ : Sample).vLaw < (par parked).vLock ∧
    isRiding .unlocking = true ∧ (⟨0, true, 0⟩ : Sample).unknown = true ∧
    (let s := withRegime (fun r => { r with regime := .safe, latest := some ⟨0, false, 0⟩ }) parked
     s.regime.regime = .safe ∧ s.regime.latest = some ⟨0, false, 0⟩) ∧
    (let s := withRegime (fun r => { r with regime := .safe, latest := some ⟨0, true, 0⟩ }) parked
     s.regime.regime = .safe ∧ s.regime.latest = some ⟨0, true, 0⟩) ∧
    (inRegime .safe parked).regime.latest = none :=
  ⟨fun _ _ => rfl, by decide +kernel⟩

/-- A ride with the tilt drive held, one that may not hold it, and drives in FAULT. -/
theorem witness_SafeEntry :
    let s := riding .freeLean parked
    let failed := withTilt { resetDrive with mode := .fault } s
    s.regime.regime ≠ .safe ∧ s.drives.tilt.mode ≠ .fault ∧ s.channels.tilt.state = .homed ∧
    (commandEngage s).drives.brake.state ≠ .engaged ∧ (commandEngage s).drives.brake.state ≠ .brakeFault ∧
    s.drives.steer.mode ≠ .fault ∧ s.drives.tilt.saturated = false ∧ s.drives.steer.saturated = false ∧
    failed.drives.tilt.mode = .fault ∧
    ({ s with drives := { s.drives with steer := { resetDrive with mode := .fault } } } : State).drives.steer.mode = .fault := by
  decide +kernel

theorem witness_FaultReports :
    (∀ w, FaultSource.wheel w = .wheel w) ∧ (∀ r s, (inRegime r s).regime.regime = r) ∧ isRiding .capture = true :=
  ⟨fun _ => rfl, fun _ _ => rfl, rfl⟩

/-- Rings of 5 and of 6 samples, a channel of each kind, and the three qualities. -/
theorem witness_LawExpiry :
    (let s := { parked with law := { parked.law with timer := some 0 } }
     s.law.timer = some (now s) ∧ s.regime.regime ≠ .init) ∧
    ([1, 2, 3, 4, 5] : List Int).length < 6 ∧ ([1, 2, 3, 4, 5, 6] : List Int).length = 6 ∧
    (channelIn .homed 1).state = .homed ∧ (channelIn .suspect 1).state = .suspect ∧
    ((channelIn .seeking 1).state ≠ .homed ∧ (channelIn .seeking 1).state ≠ .suspect) ∧
    parked.intake.deadline = none ∧
    (∀ k, let s := withIntake ⟨some 20000, some k, 0, 0, 0, false⟩ parked
      s.intake.deadline.isSome = true ∧ s.intake.latestRoll = some k) := by
  refine ⟨?_, ?_, ?_, ?_, ?_, ?_, ?_, fun k => ?_⟩
  all_goals first
    | decide
    | (cases k <;> decide)

theorem witness_LawTables :
    mapOrdered defaultMap = true ∧ defaultMap[7].speed ≤ 1999 ∧ 1999 < defaultMap[8].speed ∧
      defaultMap[8].speed ≤ 2000 ∧ (-9000 : Int) ≤ 9000 ∧ (-9000 : Int).natAbs ≤ 9000 := by
  decide +kernel

def lawInputs (r : Regime) (alpha : Nat) (steer : DriveMode) : LawInputs :=
  ⟨1000, false, ⟨750, true⟩, none, none, 0, 1024, alpha, r, steer⟩

/-- The ends of the lean table's rows; a regime of each law for the two targets; rate moves of 9 and 10. -/
theorem witness_LawTargets :
    (11 < 12 ∧ 749 < 750 ∧ balanceLean (749 : Nat) = 436 ∧ balanceLean (8999 : Nat) = 4254) ∧
    (let i := lawInputs .release 0 .run
     i.regime = .release ∧ i.alpha = 0 ∧ isRiding i.regime = true ∧ (9 : Int).natAbs ≤ defaultParams.leanRate * 2 / 1000 ∧
       defaultParams.leanRate * 2 / 1000 < (10 : Int).natAbs ∧ (4254 : Int).natAbs ≤ 4254 ∧
       (3500 : Int).natAbs ≤ defaultParams.steerLimit ∧
       (let direct := clampSym defaultParams.steerLimit (roundDiv (i.bar.b * defaultParams.steerRatioLow) 256)
        (direct - 732).natAbs ≤ defaultParams.steerRate * 2 / 1000 ∧
          defaultParams.steerRate * 2 / 1000 < (direct - 731).natAbs)) ∧
    (lawInputs .freeLean 1024 .run).alpha ≤ 1024 ∧ (lawInputs .homing 0 .hold).regime = .homing ∧
    (lawInputs .parked 0 .off).regime = .parked ∧
    (let i := lawInputs .safe 0 .run
     i.regime = .safe ∧ i.steerMode = .run) ∧
    (let i := lawInputs .safe 0 .off
     ¬ (isRiding i.regime = true ∨ (i.regime = .safe ∧ i.steerMode = .run))) := by
  decide +kernel

theorem witness_BrakeCompletions :
    (let s := riding .unlocking parked
     s.drives.brake.state = .released ∧ s.regime.regime = .unlocking) ∧
    (let s := withRegime (fun r => { r with phase := some .releasing }) creeping
     s.drives.brake.state = .released ∧ s.regime.regime = .homing ∧ s.regime.phase = some .releasing ∧
       s.channels.tilt.state = .seeking) ∧
    (let s := withTilt { resetDrive with mode := .fault } (withRegime (fun r => { r with phase := some .releasing }) creeping)
     s.drives.brake.state = .released ∧ s.regime.phase = some .releasing ∧ s.channels.tilt.state = .seeking ∧
       s.drives.tilt.mode = .fault) ∧
    (let s := withRegime (fun r => { r with phase := some .engaging }) (inRegime .homing parked)
     s.drives.brake.state = .engaged ∧ s.regime.regime = .homing ∧ s.regime.phase = some .engaging) ∧
    (parked.drives.brake.state = .engaged ∧ (inRegime .locking parked).regime.regime = .locking) ∧
    (let s := withTilt { resetDrive with mode := .hold, holdTarget := some 0 }
      (withRegime (fun r => { r with regime := .safe, safeHolding := some true }) parked)
     s.drives.brake.state = .engaged ∧ s.regime.regime = .safe ∧ s.regime.safeHolding = some true ∧
       s.drives.tilt.mode = .hold ∧ s.drives.tilt.saturated = false) := by
  decide +kernel

/-- For each shaft, seeking and not, in HOMING and not, in phase CREEP and not. -/
theorem witness_CreepTimeout :
    (∀ d, (getDrive creeping d).creepTimer = some (now creeping) ∧ creeping.regime.regime = .homing ∧
      creeping.regime.phase = some .creep ∧ (getChannel creeping (driveChannel d)).state = .seeking ∧
      creeping.drives.brake.state = .released) ∧
    (∀ d, (getDrive (inRegime .safe creeping) d).creepTimer = some (now (inRegime .safe creeping)) ∧
      (inRegime .safe creeping).regime.regime ≠ .homing) ∧
    (let s := withRegime (fun r => { r with phase := some .releasing }) (withTiltChannel (channelIn .homed 0) creeping)
     s.regime.regime = .homing ∧ s.regime.phase ≠ some .creep ∧ (getDrive s .tilt).creepTimer = some (now s) ∧
       (getChannel s .tilt).state ≠ .seeking) := by
  refine ⟨fun d => ?_, fun d => ?_, by decide +kernel⟩ <;> cases d <;> decide +kernel

theorem witness_IndexAndRange :
    (∀ state count, (withTiltChannel (channelIn state count) parked).channels.tilt.state = state) ∧
    (State.reset.channels.bar.state = .unhomed) ∧
    (creeping.channels.tilt.state = .seeking ∧ creeping.channels.steer.state = .seeking ∧
      creeping.regime.regime = .homing ∧ creeping.regime.phase = some .creep ∧ parked.regime.regime ≠ .homing) ∧
    ((2 : BitVec 32).toInt.natAbs ≤ 2 ∧ (-2 : BitVec 32).toInt.natAbs ≤ 2 ∧ 2 < (3 : BitVec 32).toInt.natAbs) ∧
    (let limit := (par parked).tiltLimit + 500
     (roundDiv ((2048 : BitVec 32).toInt * 36000) (cpr (par parked) .tilt)).natAbs ≤ limit ∧
       limit < (roundDiv ((2049 : BitVec 32).toInt * 36000) (cpr (par parked) .tilt)).natAbs) ∧
    (let s := atTime 10000000 (withTiltChannel (channelIn .suspect 0) parked)
     s.channels.tilt.suspectStart = some 0 ∧ s.channels.tilt.state = .suspect ∧ now s = after 0 10000000) :=
  ⟨fun _ _ => rfl, by decide +kernel⟩

/-- Periods 99 and 100, and the silence of 2 s among wheels above 300. -/
theorem witness_WheelEdges :
    (let s := noSpeed parked
     s.wheels.fl.state = .invalid) ∧
    (let s := atTime 99 (rolling 500 parked)
     s.wheels.fl.state = .rolling ∧ elapsed s.wheels.fl.lastEdge (now s) < 100) ∧
    (let s := atTime 100 (rolling 500 parked)
     s.wheels.fl.state = .rolling ∧ 100 ≤ elapsed s.wheels.fl.lastEdge (now s)) ∧
    parked.wheels.fl.state = .stopped ∧
    (let s := atTime 1999999 (rolling 500 parked)
     ¬ (2000000 ≤ elapsed s.wheels.fl.lastEdge (now s))) ∧
    (let w : Wheel := ⟨.rolling, 2000000, some 3000, 301⟩
     let s := { atTime 2000000 parked with wheels := ⟨⟨.stopped, 0, none, 0⟩, w, w, false, none⟩ }
     s.wheels.fl.state ≠ .invalid ∧ 2000000 ≤ elapsed s.wheels.fl.lastEdge (now s) ∧
       reading s .fr = some 301 ∧ reading s .rr = some 301 ∧ 300 < 301) := by
  decide +kernel

/-- Fronts at 1000 and a rear beyond the allowance of 150 or on it; runs of 20 ms and 200 ms, and a microsecond less. -/
def slipping (rear : Nat) (slip : Bool) (run : Option SlipRun) (t : Time) : State :=
  let w : Wheel := ⟨.rolling, t, some 3000, 1000⟩
  { atTime t parked with wheels := ⟨w, w, { w with lastSpeed := rear }, slip, run⟩ }

/-- The speeds of one wheel at its period and after it, with three readings, two and one. -/
theorem witness_DisagreementEvaluation_readings :
    (parked.wheels.fl.state = .stopped ∧ (noSpeed parked).wheels.fl.state = .invalid) ∧
    (∀ t, t = 3000 ∨ t = 3001 →
      let s := atTime (BitVec.ofNat 48 t) (rolling 500 parked)
      s.wheels.fl.state = .rolling ∧ s.wheels.fl.lastPeriod = some 3000 ∧ elapsed s.wheels.fl.lastEdge (now s) = t) ∧
    (let s := { parked with wheels := { parked.wheels with fl := ⟨.rolling, 0, none, 0⟩ } }
     s.wheels.fl.state = .rolling ∧ s.wheels.fl.lastPeriod = none) ∧
    (let s := rolling 500 parked
     reading s .fl = some 500 ∧ reading s .fr = some 500 ∧ reading s .rr = some 500) ∧
    (let s := { rolling 500 parked with wheels := { (rolling 500 parked).wheels with rr := ⟨.invalid, 0, none, 0⟩ } }
     reading s .rr = none ∧ reading s (otherWheels .rr).1 = some 500 ∧ reading s (otherWheels .rr).2 = some 500) ∧
    (reading (noSpeed parked) (otherWheels .rr).1 = none ∧ reading (noSpeed parked) (otherWheels .rr).2 = none) := by
  refine ⟨by decide +kernel, fun t h => ?_, by decide +kernel, by decide +kernel, by decide +kernel, by decide +kernel⟩
  rcases h with rfl | rfl <;> decide +kernel

theorem witness_DisagreementEvaluation :
    let kind (s : State) (rr : Nat) : Verdict :=
      if max (par s).slipAbs ((par s).slipRel * 1000 / 100) < ((rr : Int) - ((1000 + 1000) / 2 : Nat)).natAbs then .disagree
      else .agree
    (∀ t, t = 19999 ∨ t = 20000 →
      let s := slipping 1151 false (some ⟨.disagree, 0⟩) (BitVec.ofNat 48 t)
      reading s .fl = some 1000 ∧ reading s .fr = some 1000 ∧ reading s .rr = some 1151 ∧ selectedSpeed s = some 1000 ∧
        kind s 1151 = .disagree ∧ s.wheels.run = some ⟨.disagree, 0⟩ ∧ elapsed 0 (now s) = t) ∧
    (∀ t, t = 199999 ∨ t = 200000 →
      let s := slipping 1150 true (some ⟨.agree, 0⟩) (BitVec.ofNat 48 t)
      reading s .fl = some 1000 ∧ reading s .rr = some 1150 ∧ selectedSpeed s = some 1000 ∧ kind s 1150 = .agree ∧
        s.wheels.run = some ⟨.agree, 0⟩ ∧ elapsed 0 (now s) = t) ∧
    ¬ (∃ run, (slipping 1151 false none 0).wheels.run = some run ∧ run.kind = .disagree) := by
  refine ⟨?_, ?_, fun ⟨_, h, _⟩ => absurd h (by simp [slipping])⟩ <;> intro t h <;> rcases h with rfl | rfl <;>
    decide +kernel

theorem witness_StopTimers :
    let s := atTime 250000 (rolling 500 parked)
    (getWheel s .rr).state = .rolling ∧ now s = after (getWheel s .rr).lastEdge 250000 ∧ (getWheel s .fl).state ≠ .stopped ∧
    (∀ slip, slip = false ∨ slip = true →
      let u := { s with wheels := ⟨resetWheel, resetWheel, s.wheels.rr, slip, none⟩ }
      (getWheel u .rr).state = .rolling ∧ now u = after (getWheel u .rr).lastEdge 250000 ∧
        ((getWheel u .fl).state = .stopped ∧ (getWheel u .fr).state = .stopped) ∧ u.wheels.slip = slip) := by
  refine ⟨by decide +kernel, by decide +kernel, by decide +kernel, ?_⟩
  intro slip h
  rcases h with rfl | rfl <;> decide +kernel

/-- Fine positions 4949 and 4950 of a frame of 5000 with a window of 50, and 5050 for the window timer. -/
theorem witness_Strobes :
    let s (sync : Sync) (good missed : Nat) (t : Time) : State := withSync ⟨t, sync, 0, some 0, false, good, missed⟩ parked
    parked.timeBase.sync = .unsynced ∧
    (∀ sync good missed t, (s sync good missed t).timeBase.gridStart = some 0 ∧
      (s sync good missed t).timeBase.sync = sync ∧ (s sync good missed t).timeBase.goodRun = good ∧
      (s sync good missed t).timeBase.missedRun = missed) ∧
    elapsed 0 (now (s .locked 4 0 4949)) + (par parked).strobeWindow < (par parked).framePeriod ∧
    (par parked).framePeriod ≤ elapsed 0 (now (s .locked 4 0 4950)) + (par parked).strobeWindow ∧
    elapsed 0 (now (s .holdover 0 48 5050)) = (par parked).framePeriod + (par parked).strobeWindow ∧
    48 < 49 ∧ 49 ≤ 49 :=
  ⟨rfl, fun _ _ _ _ => ⟨rfl, rfl, rfl, rfl⟩, by decide +kernel⟩

/-- A report of a yaw and a roll, one without its flags and one cut short, at ages 2, 3, 32767 and 32768 of a LOCKED grid. -/
theorem witness_MotionReports :
    let formed (payload : List Byte) := 3 ≤ payload.length ∧
      ((byteAt payload 2).getLsbD 0 = true ∨ (byteAt payload 2).getLsbD 1 = true) ∧
      payload.length = 3 + 2 * (((byteAt payload 2).getLsbD 0).toNat + ((byteAt payload 2).getLsbD 1).toNat)
    let s := withSync ⟨0, .locked, 0, some 0, true, 4, 0⟩ parked
    let age (payload : List Byte) := (s.timeBase.frameCount - halfAt payload 0).toNat
    TakesAtOnce s ∧ TakesAtOnce parked ∧
    ¬ formed [0, 0, 0] ∧ ¬ formed [0, 0, 1, 0] ∧ formed [0, 0, 3, 0, 0, 0, 0] ∧ formed [0, 0, 2, 0, 0] ∧
    (s.timeBase.aligned = true ∧ s.timeBase.sync = .locked) ∧ parked.timeBase.aligned = false ∧
    age [0xFE, 0xFF, 3, 0, 0, 0, 0] = 2 ∧ age [0xFD, 0xFF, 3, 0, 0, 0, 0] = 3 ∧
    age [0x01, 0x80, 3, 0, 0, 0, 0] = 32767 ∧ age [0x00, 0x80, 3, 0, 0, 0, 0] = 32768 :=
  ⟨takes rfl, takes rfl, by decide +kernel⟩

/-- An absent and a present angle, and a yaw check at V_FREE with mismatches of 1500 and 1501 against a straight steer. -/
theorem witness_InertialSteps :
    let s (mismatches matches' : Nat) (slip : Bool) : State :=
      withIntake ⟨some 20000, some .aged, 0, mismatches, matches', slip⟩ (rolling 250 parked)
    angle State.reset .tilt = none ∧ angle parked .tilt = some 0 ∧
    quality parked ≠ .fresh ∧
    (∀ mismatches matches' slip,
      quality (s mismatches matches' slip) = .fresh ∧ (s mismatches matches' slip).intake.mismatchRun = mismatches ∧
      (s mismatches matches' slip).intake.matchRun = matches' ∧ (s mismatches matches' slip).intake.yawSlip = slip) ∧
    selectedSpeed (s 2 0 false) = some 250 ∧ (par (s 2 0 false)).vFree ≤ 250 ∧
    (s 2 0 false).channels.steer.state = .homed ∧
    (let kinematic := roundDiv (250 * angleOfCount (s 2 0 false).channels.steer.count (par (s 2 0 false)).cprSteer * 10)
      (par (s 2 0 false)).wheelbase
     (par parked).yawTol < ((1501 : Int) - kinematic).natAbs ∧ ((1500 : Int) - kinematic).natAbs ≤ (par parked).yawTol) :=
  ⟨by decide, by decide +kernel, by decide, fun _ _ _ => ⟨rfl, rfl, rfl, rfl⟩, by decide +kernel⟩

theorem witness_FreshnessDeadline :
    ∀ slip, let s := withIntake ⟨some 0, some .aged, 0, 0, 0, slip⟩ parked
      s.intake.deadline = some (now s) ∧ s.intake.yawSlip = slip :=
  fun _ => ⟨rfl, rfl⟩

theorem witness_PwmBoundaryAndCuts :
    (let s := atTime 50 parked
     (now s).toNat % 50 = 0 ∧ s.drives.periodStart ≠ now s) ∧
    (let r (n : Nat) : Drive := { resetDrive with mode := .run, shadow := 900, active := 900, cutRun := n, cutFlag := true }
     (r 398).shadow ≠ 0 ∧ (if (r 398).cutFlag then (r 398).cutRun else 0) < 399 ∧
       399 ≤ (if (r 399).cutFlag then (r 399).cutRun else 0) ∧ resetDrive.shadow = 0) ∧
    (let s (n : Nat) : State := atTime 44 (withTilt { resetDrive with mode := .run, active := 900, cutRun := n } parked)
     (s 398).drives.tilt.cutFlag = false ∧
       elapsed (s 398).drives.periodStart (now (s 398)) * 20 < (s 398).drives.tilt.active.natAbs ∧
       (s 398).drives.tilt.cutRun < 399 ∧ 399 ≤ (s 399).drives.tilt.cutRun ∧
       (s 398).drives.tilt.active.natAbs ≤ elapsed (s 398).drives.periodStart 45 * 20) := by
  decide +kernel

/-- Each mode, an absent angle, errors of 300 and 301 at full duty, and saturations of 250 ms and a microsecond less. -/
theorem witness_LoopExpiry :
    (let s := atTime 500 parked
     (now s).toNat % 500 = 0 ∧ s.drives.latestLoop ≠ now s) ∧
    resetDrive.mode = .off ∧ creeping.drives.tilt.mode = .creep ∧ angle State.reset .tilt = none ∧
    angle parked .tilt = some 0 ∧
    (let r (target : Int) (start : Option Time) : Drive :=
      { resetDrive with mode := .hold, holdTarget := some target, ePrev := some (-2000), satStart := start }
     let full (target : Int) : Bool :=
       decide ((clampSym (par parked).uMax (roundDiv ((par parked).kpTilt * (target - 0) +
         (par parked).kdTilt * ((target - 0) - (r target none).ePrev.getD (target - 0))) 256)).natAbs = (par parked).uMax)
     (r 301 none).mode = .hold ∧ (r 301 none).holdTarget = some 301 ∧ full 301 = true ∧ 300 < (301 - 0 : Int).natAbs ∧
       full (-1700) = false ∧ (300 - 0 : Int).natAbs ≤ 300 ∧ (r 301 none).satStart = none ∧
       (r 301 (some 0)).satStart = some 0 ∧ elapsed 0 249999 < 250000 ∧ 250000 ≤ elapsed 0 250000) := by
  decide +kernel

theorem witness_BrakeContact :
    ∀ state, (withBrake ⟨state, false, some 0⟩ parked).drives.brake.state = state ∧
      (withBrake ⟨state, false, some 0⟩ parked).drives.brake.timer = some (now parked) :=
  fun _ => ⟨rfl, rfl⟩

/-- The counters 7 and 8, the events 15 and 16, a wrong mode, action and pairing, and masks with and without a sub-kind. -/
theorem witness_CounterRequests :
    TakesAtOnce parked ∧ 8 ≤ (8#8).toNat ∧ (7#8).toNat < 8 ∧ counterActionOfCode 3 = none ∧ counterActionOfCode 2 ≠ none ∧
    15 < (16#8).toNat ∧ ((1 : Byte) ≠ 0 ∧ counterModeOfCode 4 = none) ∧
    (eventOfNumber 15 = some .leanLimited ∧ counterModeOfCode 0 = some .count ∧ modeValid .count .leanLimited = false) ∧
    (eventOfNumber 2 = some .steerClamp ∧ 0 < subKinds .steerClamp ∧
      ∀ i, i < subKinds .steerClamp → (0xFC : Byte).getLsbD i = false) ∧
    (modeValid .count .steerClamp = true ∧ 1 < subKinds .steerClamp ∧ (0x02 : Byte).getLsbD 1 = true) ∧
    (eventOfNumber 11 = some .reportAge ∧ modeValid .accumulate .reportAge = true ∧ subKinds .reportAge = 0) :=
  ⟨takes rfl, by decide⟩

/-- A counter whose stretch is complete after 250 µs more than a mark, its remainder being 750; two NOTIFY counters that one
strobe takes to their thresholds while the transmitter sends and while it is idle. -/
theorem witness_Counting :
    (let c : Counter := ⟨⟨some .slipActive, 3, .duration, 0, .none⟩, 0, false, 750, some 0⟩
     let s := { atTime 250 parked with counters := { parked.counters with counters := Vector.replicate 8 c } }
     s.counters.counters[7].mark = some 0 ∧ now s = after 0 (1000 - s.counters.counters[7].remainder) ∧
       c.remainder + elapsed 0 249 < 1000 ∧ 1000 ≤ c.remainder + elapsed 0 250) ∧
    (let c : Counter := ⟨⟨some .strobe, 3, .count, 1, .notify⟩, 0, false, 0, none⟩
     let s := { parked with counters := { parked.counters with
       counters := (parked.counters.counters.set 0 c).set 7 c } }
     let t := deliver .strobe 1 (sending s)
     (sending s).link.transmitter.isSome = true ∧ s.link.transmitter = none ∧
       (∀ i : Fin 8, i = 0 ∨ i = 7 → t.counters.counters[i].config.action = .notify ∧
         (sending s).counters.counters[i].reached = false ∧ t.counters.counters[i].reached = true) ∧
       (sending s).link.thresholdSlot = none) ∧
    (let t := parked.counters.conditions
     selectedCondition ⟨some .slipActive, 3, .duration, 0, .none⟩ t = false ∧
       selectedCondition ⟨some .slipActive, 3, .duration, 0, .none⟩ { t with slipWheel := true } = true ∧
       selectedCondition ⟨some .slipActive, 3, .edge, 0, .none⟩ { t with slipYaw := true } = true) := by
  decide +kernel

/-- INIT and PARKED, ids 0, 32, 33, a PARKED-only id, writes that change the value and that do not, and the points 8 and 9 in
and out of order. -/
theorem witness_CalibrationWrites :
    TakesAtOnce parked ∧ TakesAtOnce (inRegime .init parked) ∧ TakesAtOnce (inRegime .freeLean parked) ∧
    (∀ r, (inRegime r parked).regime.regime = r) ∧
    (∀ p, ∃ id : Byte, id.toNat = (paramRow p).id) ∧ (0#8).toNat = 0 ∧ 32 < (33#8).toNat ∧
    (paramRow .cprBar).parkedOnly = true ∧ (paramRow .uMax).parkedOnly = false ∧
    (∀ p, getParam (par parked) p ≠ (paramRow p).hi ∨ p = .reportPeriod ∨ getParam (par parked) p ≠ (paramRow p).lo) ∧
    (let risen (m : Vector MapPoint 9) := m[0].speed = 0 ∧ ∀ i : Fin 8, m[i.val].speed < m[i.val + 1].speed
     (8#8).toNat < 9 ∧ 9 ≤ (9#8).toNat ∧ risen (defaultMap.set 8 ⟨1501, 0, 0, 0⟩) ∧
       ¬ risen (defaultMap.set 8 ⟨1500, 0, 0, 0⟩) ∧ ¬ risen (defaultMap.set 0 ⟨1, 0, 0, 0⟩)) := by
  refine ⟨takes rfl, takes rfl, takes rfl, fun _ => rfl, fun p => ⟨BitVec.ofNat 8 (paramRow p).id, ?_⟩, rfl, by decide,
    rfl, rfl, fun p => ?_, by decide +kernel⟩
  · cases p <;> rfl
  · cases p <;> decide

theorem witness_SaveAndLoad :
    (∃ s, TakesAtOnce s ∧ s.regime.regime ≠ .parked) ∧
    (∃ s, TakesAtOnce s ∧ s.regime.regime = .parked ∧ s.store.state = .saving) ∧
    (TakesAtOnce parked ∧ parked.regime.regime = .parked ∧ parked.store.state = .idle) :=
  ⟨⟨inRegime .init parked, takes rfl, by decide⟩,
   ⟨withStore (fun t => { t with state := .saving }) parked, takes rfl, by decide⟩, takes rfl, by decide⟩

/-- Status bytes with bit 0 set and clear, headers of 64 and 65 tuples, and bodies of no tuple. -/
theorem witness_FlashTransactions :
    ((0x01 : Byte).getLsbD 0 = true ∧ (0x02 : Byte).getLsbD 0 = false) ∧
    (∀ k, (withStep k parked).store.step = some k) ∧
    (withStore (fun t => { t with pollLimit := some 0 }) parked).store.pollLimit = some (now parked) ∧
    (let h : Vector Byte 8 := #v[0x5A, 0x3C, 1, 64, 0x08, 0x01, 0, 0]
     h[0] = 0x5A ∧ h[1] = 0x3C ∧ h[2] = 1 ∧ h[3].toNat ≤ 64 ∧ (h[5] ++ h[4]).toNat = 72 + 3 * h[3].toNat) ∧
    (let h : Vector Byte 8 := #v[0x5A, 0x3C, 1, 65, 0x0B, 0x01, 0, 0]
     ¬ (h[0] = 0xFF ∧ h[1] = 0xFF) ∧ ¬ (h[3].toNat ≤ 64)) ∧
    (let body := defaultMap.toList.flatMap pointBytes
     body.length = 72 + 3 * 0 ∧ crc16 body = crc16 body ∧ mapOrdered (bodyMap body) = true ∧
       crc16 body ≠ crc16 body + 1) ∧
    (let s := withStore (fun t => { t with snapshot := some defaultCalibration }) (withStep .saveVerify parked)
     s.store.step = some .saveVerify ∧ s.store.snapshot = some defaultCalibration) ∧
    (∃ bytes : Vector Byte 176, bytes.toList = imageBytes defaultCalibration) ∧
    ((par parked).uMax ≠ 1000 - 1 ∧ (par parked).reportPeriod ≠ 0 ∧ parked.timeBase.sync = .unsynced ∧
      ¬ (withSync ⟨0, .locked, 0, some 0, true, 4, 0⟩ parked).timeBase.sync = .unsynced) ∧
    (Vector.replicate 176 (0 : Byte)).toList ≠ imageBytes defaultCalibration := by
  refine ⟨by decide, fun _ => rfl, rfl, by decide, by decide, by decide +kernel, ⟨rfl, rfl⟩,
    ⟨⟨(imageBytes defaultCalibration).toArray, by decide +kernel⟩, rfl⟩, by decide +kernel, by decide +kernel⟩

end Sys2Proof.Tests
end

section
/-! The stop timer's expiry and the all-stopped step (R109, R117). -/

namespace Sys2Proof.Machine

variable (s : State)

/-! ### The all-stopped step and the change of wheel slip -/

/-- Setting wheel slip to the value it has is no change, so nothing is delivered (R118). -/
theorem changeSlip_of_eq (v : Bool) (same : s.wheels.slip = v) : changeSlip v s = s := if_pos same

/-- Setting wheel slip to another value delivers it (R118). -/
theorem changeSlip_of_ne (v : Bool) (changes : s.wheels.slip ≠ v) :
    changeSlip v s = deliverSlipWheel v { s with wheels := { s.wheels with slip := v } } := if_neg changes

/-- The three tests of the all-stopped step are one quantifier over the wheels (R117). -/
theorem three_stopped_iff :
    (s.wheels.fl.state = .stopped ∧ s.wheels.fr.state = .stopped ∧ s.wheels.rr.state = .stopped) ↔
      ∀ x, (getWheel s x).state = .stopped :=
  ⟨fun ⟨fl, fr, rr⟩ x => match x with | .fl => fl | .fr => fr | .rr => rr,
   fun all => ⟨all .fl, all .fr, all .rr⟩⟩

theorem allStoppedStep_of_moving (moving : ¬ ∀ x, (getWheel s x).state = .stopped) : allStoppedStep s = s :=
  if_neg fun three => moving ((three_stopped_iff s).mp three)

theorem allStoppedStep_of_still (still : ∀ x, (getWheel s x).state = .stopped) :
    allStoppedStep s = setRun none (changeSlip false s) :=
  if_pos ((three_stopped_iff s).mpr still)

/-! ### The stop timer -/

/-- The stop timer stands at its expiry 250 000 µs after the last edge of a ROLLING wheel, and at no other time (R109). -/
theorem stopDue_iff (w : WheelId) :
    stopDue s w = true ↔ (getWheel s w).state = .rolling ∧ now s = after (getWheel s w).lastEdge 250000 := by
  by_cases rolling : (getWheel s w).state = .rolling <;> simp [stopDue, stopTimer, rolling, eq_comm]

theorem execStopTimerExpiry_of_due (w : WheelId) (due : stopDue s w = true) :
    execStopTimerExpiry w s = .next (stopWheel w s) :=
  congrArg Host.Outcome.next (if_pos due)

/-- Once one wheel's record is STOPPED, all three are exactly when the two other wheels are. -/
theorem setWheel_still_iff (w : WheelId) (r : Wheel) (stopped : r.state = .stopped) :
    (∀ x, (getWheel (setWheel w r s) x).state = .stopped) ↔ ∀ x, x ≠ w → (getWheel s x).state = .stopped := by
  refine forall_congr' fun x => ?_
  by_cases same : x = w
  · simp [same, stopped]
  · simp [getWheel_setWheel_of_ne s r same, same]

/-- Settles O48: at its expiry the timer stops the wheel; the all-stopped step that follows then turns on the two other
wheels, and on whether slip stood before. -/
theorem stopTimers : Obligations.StopTimers := by
  intro w s rolling expired stopped
  have ran : exec (.stopTimerExpiry w) s = .next (allStoppedStep stopped) :=
    execStopTimerExpiry_of_due s w ((stopDue_iff s w).mpr ⟨rolling, expired⟩)
  have all : (∀ x, (getWheel stopped x).state = .stopped) ↔ ∀ x, x ≠ w → (getWheel s x).state = .stopped :=
    setWheel_still_iff s w _ rfl
  have slip : stopped.wheels.slip = s.wheels.slip := (setWheel_slip s w _).1
  refine ⟨fun ⟨x, other, moving⟩ => ?_, fun others noSlip => ?_, fun others slipping => ?_⟩
  · have stillMoving : ¬ ∀ y, (getWheel stopped y).state = .stopped := fun still => moving (all.mp still x other)
    rw [ran, allStoppedStep_of_moving stopped stillMoving]
  · rw [ran, allStoppedStep_of_still stopped (all.mpr others),
      changeSlip_of_eq stopped false (slip.trans noSlip), setRun]
  · rw [ran, allStoppedStep_of_still stopped (all.mpr others),
      changeSlip_of_ne stopped false (by simp [slip, slipping])]

end Sys2Proof.Machine
end

section
/-! ALIGN at its entry: its operand read back, and the checks of R130 in order. -/

namespace Sys2Proof.Machine

variable (n : Half) (s : State)

/-- ALIGN's operand is read back from its payload (R208). -/
@[simp] theorem halfAt_alignPayload : halfAt (alignPayload n) 0 = n := bytes_of_half n

@[simp] theorem length_alignPayload : (alignPayload n).length = 2 := rfl

/-- An ALIGN frame passes the link's checks, and the time base takes its operand (R195). -/
theorem handOver_align : handOver ⟨kindByte .align, alignPayload n⟩ s = takeAlign n s := by
  simp [handOver, lengthFits, requiredLength, takeRequest]

/-- ALIGN handed over at its entry is taken by the time base (R194, R202). -/
theorem exec_align_of_takesAtOnce (h : TakesAtOnce s) : exec (.align n) s = .next (takeAlign n s) := by
  rw [exec_align, execAlign, presentFrame_of_takesAtOnce _ s h, handOver_align]

/-! ### What the time base does with ALIGN (R130) -/

theorem takeAlign_of_init (init : s.regime.regime = .init) : takeAlign n s = refuse .align .wrongRegime s :=
  if_pos init

theorem takeAlign_of_unsynced (running : s.regime.regime ≠ .init) (unsynced : s.timeBase.sync = .unsynced) :
    takeAlign n s = refuse .align .notSynced s :=
  (if_neg running).trans (if_pos unsynced)

theorem takeAlign_of_synced (running : s.regime.regime ≠ .init) (synced : s.timeBase.sync ≠ .unsynced) :
    takeAlign n s =
      accept (.align n) { s with timeBase := { s.timeBase with frameCount := n, aligned := true } } :=
  (if_neg running).trans (if_neg synced)

/-- Settles O25: the frame reaches the time base with its operand as given, and each clause is one branch of R130's checks. -/
theorem alignRequest : Obligations.AlignRequest := by
  intro n s atOnce
  rw [exec_align_of_takesAtOnce n s atOnce]
  refine ⟨fun init => ?_, fun running unsynced => ?_, fun running synced => ?_⟩
  · rw [takeAlign_of_init n s init]
  · rw [takeAlign_of_unsynced n s running unsynced]
  · rw [takeAlign_of_synced n s running synced]

end Sys2Proof.Machine
end

section
/-! COUNTER_SET and COUNTER_CLEAR at their entry: their operands read back, the checks of R183 as one inversion of the
configuration they store, and each counter after a clear (R186). -/

namespace Sys2Proof.Machine

variable (n event mask mode : Byte) (threshold : Word32) (action : Byte) (s : State)

/-! ### The requests reach the counter unit (R195, R208) -/

/-- COUNTER_SET's threshold is read back from its payload (R208). -/
@[simp] theorem wordAt_counterSetPayload : wordAt (counterSetPayload n event mask mode threshold action) 4 = threshold :=
  wordAt_le32 threshold

@[simp] theorem length_counterSetPayload : (counterSetPayload n event mask mode threshold action).length = 9 := rfl

/-- A COUNTER_SET frame passes the link's checks, and the counter unit takes its operands (R195). -/
theorem handOver_counterSet :
    handOver ⟨kindByte .counterSet, counterSetPayload n event mask mode threshold action⟩ s =
      takeCounterSet n event mask mode threshold action s := by
  simp only [handOver, kindOfByte_kindByte, lengthFits, requiredLength, length_counterSetPayload, BEq.rfl, ↓reduceIte,
    takeRequest, wordAt_counterSetPayload]
  rfl

theorem exec_counterSet_of_takesAtOnce (h : TakesAtOnce s) :
    exec (.counterSet n event mask mode threshold action) s =
      .next (takeCounterSet n event mask mode threshold action s) := by
  rw [exec_counterSet, execCounterSet, presentFrame_of_takesAtOnce _ s h, handOver_counterSet]

theorem exec_counterClear_of_takesAtOnce (h : TakesAtOnce s) :
    exec (.counterClear mask) s = .next (takeCounterClear mask s) := by
  rw [exec_counterClear, execCounterClear, presentFrame_of_takesAtOnce _ s h]
  rfl

/-! ### The mask that COUNTER_SET keeps (R183) -/

/-- The kept mask has the request's bits in the places that name a sub-kind, and no other. -/
theorem getLsbD_keptMask (e : CounterEvent) (i : Nat) :
    (keptMask (some e) mask).getLsbD i = (mask.getLsbD i && decide (i < subKinds e)) := by
  by_cases inside : i < 8
  · simp only [keptMask, byteOf, BitVec.getLsbD_and, BitVec.getLsbD_ofNat, Nat.testBit_two_pow_sub_one, inside,
      decide_true, Bool.true_and]
  · simp [BitVec.getLsbD_of_ge _ i (Nat.le_of_not_lt inside)]

/-- Nothing of a mask is kept exactly when it names no sub-kind. -/
theorem keptMask_eq_zero_iff (e : CounterEvent) :
    keptMask (some e) mask = 0 ↔ ∀ i, i < subKinds e → mask.getLsbD i = false := by
  constructor
  · intro dropped i names
    simpa [dropped, names] using getLsbD_keptMask mask e i
  · intro off
    refine BitVec.eq_of_getLsbD_eq fun i _ => ?_
    rw [getLsbD_keptMask]
    by_cases names : i < subKinds e <;> simp [names, off]

/-! ### The checks of COUNTER_SET (R183) -/

theorem eventOfNumber_of_high (k : Nat) (high : 15 < k) : eventOfNumber k = none := by
  obtain ⟨j, rfl⟩ := Nat.exists_eq_add_of_le' high
  rfl

/-- For event 0 the configuration of an unused counter is stored. -/
theorem checkConfig_of_zero (act : counterActionOfCode action ≠ none) :
    checkConfig 0 mask mode threshold action = some resetConfig :=
  (if_pos rfl).trans (if_pos (Option.isSome_iff_ne_none.mpr act))

/-- A catalogued event with codes of R208 is stored unless its mode is not valid for it or its mask names no sub-kind. -/
theorem checkConfig_of_codes {e : CounterEvent} {m : CounterMode} {a : CounterAction}
    (he : eventOfNumber event.toNat = some e) (hm : counterModeOfCode mode = some m)
    (ha : counterActionOfCode action = some a) :
    checkConfig event mask mode threshold action =
      if modeValid m e = false ∨ (subKinds e ≠ 0 ∧ keptMask (some e) mask = 0) then none
      else some ⟨some e, keptMask (some e) mask, m, threshold.toNat, a⟩ := by
  have named : event ≠ 0 := by
    rintro rfl
    exact nomatch he
  rw [checkConfig, if_neg named]
  simp only [he, hm, ha]

/-- What COUNTER_SET stores, whenever it stores anything. -/
theorem checkConfig_cases {config : CounterConfig} (stores : checkConfig event mask mode threshold action = some config) :
    counterActionOfCode action ≠ none ∧
      (event = 0 ∨
        ∃ e m, eventOfNumber event.toNat = some e ∧ counterModeOfCode mode = some m ∧ modeValid m e = true ∧
          (subKinds e = 0 ∨ keptMask (some e) mask ≠ 0)) := by
  unfold checkConfig at stores
  split at stores
  case isTrue zero =>
    split at stores
    · next act => exact ⟨Option.isSome_iff_ne_none.mp act, .inl zero⟩
    · contradiction
  case isFalse =>
    split at stores
    next e m a he hm ha =>
      split at stores
      · contradiction
      · next passes =>
        obtain ⟨valid, names⟩ := not_or.mp passes
        have act : counterActionOfCode action ≠ none := ha ▸ Option.some_ne_none a
        exact ⟨act, .inr ⟨e, m, he, hm, eq_true_of_ne_false valid,
          Decidable.or_iff_not_imp_left.mpr fun kinds dropped => names ⟨kinds, dropped⟩⟩⟩
    · contradiction

/-! The checks in order, each with what it refuses. -/

theorem checkConfig_of_bad_action (bad : counterActionOfCode action = none) :
    checkConfig event mask mode threshold action = none := by
  refine Option.eq_none_iff_forall_ne_some.mpr fun config stores => ?_
  obtain ⟨act, -⟩ := checkConfig_cases event mask mode threshold action stores
  exact act bad

theorem checkConfig_of_high_event (high : 15 < event.toNat) :
    checkConfig event mask mode threshold action = none := by
  refine Option.eq_none_iff_forall_ne_some.mpr fun config stores => ?_
  obtain ⟨-, rfl | ⟨e, m, he, -⟩⟩ := checkConfig_cases event mask mode threshold action stores
  · exact absurd high (by decide)
  · simp [eventOfNumber_of_high _ high] at he

theorem checkConfig_of_bad_mode (named : event ≠ 0) (bad : counterModeOfCode mode = none) :
    checkConfig event mask mode threshold action = none := by
  refine Option.eq_none_iff_forall_ne_some.mpr fun config stores => ?_
  obtain ⟨-, zero | ⟨e, m, -, hm, -⟩⟩ := checkConfig_cases event mask mode threshold action stores
  · exact named zero
  · simp [bad] at hm

/-- A mode that is not valid for the event, or a mask that names none of its sub-kinds, is refused. -/
theorem checkConfig_of_unfit {e : CounterEvent} (he : eventOfNumber event.toNat = some e)
    (unfit : (∃ m, counterModeOfCode mode = some m ∧ modeValid m e = false) ∨
      (subKinds e ≠ 0 ∧ keptMask (some e) mask = 0)) :
    checkConfig event mask mode threshold action = none := by
  refine Option.eq_none_iff_forall_ne_some.mpr fun config stores => ?_
  obtain ⟨-, rfl | ⟨e', m', he', hm', valid, names⟩⟩ := checkConfig_cases event mask mode threshold action stores
  · exact nomatch he
  · obtain rfl : e = e' := Option.some.inj (he.symm.trans he')
    obtain ⟨m, hm, invalid⟩ | ⟨kinds, dropped⟩ := unfit
    · obtain rfl : m = m' := Option.some.inj (hm.symm.trans hm')
      simp [valid] at invalid
    · exact names.elim kinds (· dropped)

/-! ### What COUNTER_SET does (R183) -/

theorem takeCounterSet_of_unknown (unknown : 8 ≤ n.toNat) :
    takeCounterSet n event mask mode threshold action s = refuse .counterSet .badValue s :=
  dif_neg (Nat.not_lt.mpr unknown)

theorem takeCounterSet_of_none (bad : checkConfig event mask mode threshold action = none) :
    takeCounterSet n event mask mode threshold action s = refuse .counterSet .badValue s := by
  unfold takeCounterSet
  rw [bad]
  exact dite_eq_right_iff.mpr fun _ => rfl

theorem takeCounterSet_of_some {config : CounterConfig} (h : n.toNat < 8)
    (good : checkConfig event mask mode threshold action = some config) :
    takeCounterSet n event mask mode threshold action s =
      accept (.counterSet n config)
        (setCounter ⟨n.toNat, h⟩ (configured config s.counters.conditions (now s)) s) := by
  simp only [takeCounterSet, h, ↓reduceDIte, good]

/-! ### What COUNTER_CLEAR does (R186) -/

/-- A cleared counter keeps its mark but for a DURATION counter that is timing, which times from now (R186). -/
theorem clearedCounter_eq (t : Time) (c : Counter) :
    clearedCounter t c =
      { c with
        value := 0
        reached := false
        remainder := 0
        mark := if c.config.mode = .duration ∧ c.mark ≠ none then some t else c.mark } := by
  unfold clearedCounter
  cases timing : c.mark <;> simp

/-- Each counter after a clear: cleared when the mask names it, and else as it was. -/
theorem clearNamed_counters (i : Fin 8) :
    (clearNamed mask s).counters.counters[i] =
      if mask.getLsbD i then clearedCounter (now s) s.counters.counters[i] else s.counters.counters[i] :=
  Vector.getElem_mapIdx i.isLt

/-- Settles O56: the operands reach the counter unit as given, each refusing clause is a check that stores no configuration,
each accepting one stores the configuration of its codes, and a clear is read counter by counter. -/
theorem counterRequests : Obligations.CounterRequests := by
  intro s atOnce
  refine ⟨?_, fun mask => ?_⟩
  · intro n event mask mode threshold action k refused
    have ran := exec_counterSet_of_takesAtOnce n event mask mode threshold action s atOnce
    have refuses (bad : checkConfig event mask mode threshold action = none) : refused :=
      ran.trans (congrArg _ (takeCounterSet_of_none n event mask mode threshold action s bad))
    refine ⟨fun unknown => ?_, fun badAction => ?_, fun high => ?_, fun named badMode => ?_,
      fun e m he hm invalid => ?_, fun e he kinds off => ?_, fun h act zero => ?_,
      fun h e m a he hm ha valid names => ?_⟩
    · exact ran.trans (congrArg _ (takeCounterSet_of_unknown n event mask mode threshold action s unknown))
    · exact refuses (checkConfig_of_bad_action event mask mode threshold action badAction)
    · exact refuses (checkConfig_of_high_event event mask mode threshold action high)
    · exact refuses (checkConfig_of_bad_mode event mask mode threshold action named badMode)
    · exact refuses (checkConfig_of_unfit event mask mode threshold action he (.inl ⟨m, hm, invalid⟩))
    · have dropped : keptMask (some e) mask = 0 := (keptMask_eq_zero_iff mask e).mpr off
      exact refuses (checkConfig_of_unfit event mask mode threshold action he (.inr ⟨Nat.ne_of_gt kinds, dropped⟩))
    · subst zero
      rw [ran, takeCounterSet_of_some n 0 mask mode threshold action s h
        (checkConfig_of_zero mask mode threshold action act)]
      rfl
    · have fits : ¬ (modeValid m e = false ∨ (subKinds e ≠ 0 ∧ keptMask (some e) mask = 0)) := by
        rintro (invalid | ⟨kinds, dropped⟩)
        · simp [valid] at invalid
        · obtain ⟨i, named, on⟩ := names.resolve_left kinds
          simp [(keptMask_eq_zero_iff mask e).mp dropped i named] at on
      refine ⟨keptMask (some e) mask, getLsbD_keptMask mask e, ?_⟩
      rw [ran, takeCounterSet_of_some n event mask mode threshold action s h
        ((checkConfig_of_codes event mask mode threshold action he hm ha).trans (if_neg fits))]
      rfl
  · refine ⟨(clearNamed mask s).counters, exec_counterClear_of_takesAtOnce mask s atOnce, rfl, fun i => ?_⟩
    rw [clearNamed_counters, clearedCounter_eq]

end Sys2Proof.Machine
end

section
/-! The receiver byte by byte: one equation per receiver state, the CRC verdict by its outcome (R191 to R193). -/

namespace Sys2Proof.Machine

variable (b : Byte) (s : State)

/-! ### The sub-kinds of LINK_FRAME, each a mask of one bit (R171) -/

theorem frameKinds_good : frameKinds true false false false false = 1 := by decide
theorem frameKinds_crc : frameKinds false true false false false = 2 := by decide
theorem frameKinds_overrun : frameKinds false false true false false = 4 := by decide
theorem frameKinds_gap : frameKinds false false false true false = 8 := by decide
theorem frameKinds_length : frameKinds false false false false true = 16 := by decide

/-! ### A byte in each receiver state (R191) -/

theorem linkByteStep_of_hunt (hunt : s.link.receiver = .hunt) :
    linkByteStep b s = if b = 0xC3 then assemble .len s else s := by
  simp only [linkByteStep, hunt]

theorem linkByteStep_of_len (len : s.link.receiver = .len) :
    linkByteStep b s =
      if b.toNat ≤ 48 then assemble (.kind b.toNat) s else deliver .linkFrame 16 (endAssembly s) := by
  simp only [linkByteStep, len, frameKinds_length]

theorem linkByteStep_of_kind {n : Nat} (kind : s.link.receiver = .kind n) :
    linkByteStep b s = assemble (if n = 0 then .crcHi b [] else .payload n b []) s := by
  simp only [linkByteStep, kind]

/-- While a payload byte is missing, the byte is the last one exactly when it brings the payload to its length. -/
theorem linkByteStep_of_payload {n : Nat} {k : Byte} {taken : List Byte} (payload : s.link.receiver = .payload n k taken)
    (missing : taken.length < n) :
    linkByteStep b s =
      assemble (if taken.length + 1 = n then .crcHi k (taken ++ [b]) else .payload n k (taken ++ [b])) s := by
  have last : n ≤ taken.length + 1 ↔ taken.length + 1 = n := by omega
  simp only [linkByteStep, payload, last]

theorem linkByteStep_of_crcHi {k : Byte} {p : List Byte} (crcHi : s.link.receiver = .crcHi k p) :
    linkByteStep b s = assemble (.crcLo k p b) s := by
  simp only [linkByteStep, crcHi]

theorem linkByteStep_of_crcLo {k : Byte} {p : List Byte} {h : Byte} (crcLo : s.link.receiver = .crcLo k p h) :
    linkByteStep b s = crcVerdict k p (h ++ b) (endAssembly s) := by
  simp only [linkByteStep, crcLo]

/-! ### The CRC verdict (R193) -/

theorem crcVerdict_of_ne {k : Byte} {p : List Byte} {received : Half} (bad : frameCrc k p ≠ received) :
    crcVerdict k p received s = deliver .linkFrame 2 s := by
  rw [crcVerdict, if_neg bad, frameKinds_crc]

theorem crcVerdict_of_eq {k : Byte} {p : List Byte} {received : Half} (agrees : frameCrc k p = received) :
    crcVerdict k p received s = goodFrame ⟨k, p⟩ s :=
  if_pos agrees

theorem goodFrame_of_full (f : Frame) (full : 4 ≤ s.link.receiveQueue.length) :
    goodFrame f s = deliver .linkFrame 4 s := by
  rw [goodFrame, if_neg (Nat.not_lt.mpr full), frameKinds_overrun]

theorem goodFrame_of_room (f : Frame) (room : s.link.receiveQueue.length < 4) :
    goodFrame f s =
      proceedHandover (deliver .linkFrame 1 (setReceiveQueue (s.link.receiveQueue ++ [f]) s)) := by
  rw [goodFrame, if_pos room, frameKinds_good]

/-! ### The gap timer (R192) -/

theorem execGapTimerExpiry_of_due (due : s.link.gapTimer = some (now s)) :
    execGapTimerExpiry s = .next (deliver .linkFrame 8 (endAssembly s)) := by
  rw [execGapTimerExpiry, gapDue, decide_eq_true due, if_pos rfl, frameKinds_gap]

/-- Settles O17: each clause is the receiver's equation for its state, and on the CRC low byte the verdict's equation for its
outcome; the end of an assembly leaves the receive queue, so its room is that of the state before. -/
theorem linkReception : Obligations.LinkReception := by
  intro b s
  rw [exec_linkByte, execLinkByte, exec_gapTimerExpiry]
  refine ⟨fun hunt start => ?_, fun hunt other => ?_, fun len fits => ?_, fun len tooLong => ?_, fun n kind => ?_,
    fun n k taken payload missing => ?_, fun k p crcHi => ?_, fun k p h crcLo bad => ?_,
    fun k p h crcLo agrees full => ?_, fun k p h crcLo agrees room => ?_, fun due => ?_⟩
  · rw [linkByteStep_of_hunt b s hunt, if_pos start, assemble]
  · rw [linkByteStep_of_hunt b s hunt, if_neg other]
  · rw [linkByteStep_of_len b s len, if_pos fits, assemble]
  · rw [linkByteStep_of_len b s len, if_neg (Nat.not_le.mpr tooLong), endAssembly]
  · rw [linkByteStep_of_kind b s kind, assemble]
  · rw [linkByteStep_of_payload b s payload missing, assemble]
  · rw [linkByteStep_of_crcHi b s crcHi, assemble]
  · rw [linkByteStep_of_crcLo b s crcLo, crcVerdict_of_ne _ bad, endAssembly]
  · rw [linkByteStep_of_crcLo b s crcLo, crcVerdict_of_eq _ agrees, goodFrame_of_full (endAssembly s) _ full, endAssembly]
  · rw [linkByteStep_of_crcLo b s crcLo, crcVerdict_of_eq _ agrees, goodFrame_of_room (endAssembly s) _ room,
      setReceiveQueue, endAssembly]
  · rw [execGapTimerExpiry_of_due s due, endAssembly]

end Sys2Proof.Machine
end

section
/-! RESET at its entry: its one check, and the two outcomes (R206). -/

namespace Sys2Proof.Machine

variable (s : State)

/-- A RESET frame passes the link's checks, and the link takes it (R195). -/
theorem handOver_reset : handOver ⟨kindByte .reset, []⟩ s = takeReset s := by
  simp [handOver, lengthFits, requiredLength, takeRequest]

/-- RESET handed over at its entry is taken by the link (R194, R202). -/
theorem exec_reset_of_takesAtOnce (h : TakesAtOnce s) : exec .reset s = .next (takeReset s) := by
  rw [exec_reset, execReset, presentFrame_of_takesAtOnce _ s h, handOver_reset]

theorem resetAllowed_iff :
    resetAllowed s = true ↔
      s.regime.regime = .parked ∨ (s.regime.regime = .safe ∧ (selectedSpeed s).getD 0 < (par s).vPark) := by
  rw [← speedNow]
  simp [resetAllowed]

theorem takeReset_of_allowed (allowed : resetAllowed s = true) : takeReset s = closeHandover (accept .reset s) :=
  if_pos allowed

theorem takeReset_of_not_allowed (forbidden : ¬ resetAllowed s = true) : takeReset s = refuse .reset .wrongRegime s :=
  if_neg forbidden

/-- Settles O24: the frame reaches the link, and the two clauses are the two outcomes of R206's check; ACCEPTED is posted
before handover is closed, so an idle transmitter has selected by then. -/
theorem resetRequest : Obligations.ResetRequest := by
  intro s atOnce
  rw [exec_reset_of_takesAtOnce s atOnce, ← resetAllowed_iff]
  refine ⟨fun allowed => ?_, fun forbidden => ?_⟩
  · rw [takeReset_of_allowed s allowed, closeHandover, accept, postReply, postLink]
  · rw [takeReset_of_not_allowed s forbidden]

end Sys2Proof.Machine
end

section
/-! PARAM_GET and MAP_GET at their entry: the catalogue read by id, the map read by point, and what exists of neither
(R214). -/

namespace Sys2Proof.Machine

variable (id point : Byte) (s : State)

/-! ### The catalogue by id (R210) -/

/-- No two parameters share an id: looking up a parameter's own id gives that parameter. -/
@[simp] theorem paramOfId_paramRow (p : Param) : paramOfId (paramRow p).id = some p := by cases p <;> rfl

theorem paramRow_id_range (p : Param) : 1 ≤ (paramRow p).id ∧ (paramRow p).id ≤ 32 := by cases p <;> decide

theorem paramOfId_of_out_of_range {n : Nat} (outside : n = 0 ∨ 32 < n) : paramOfId n = none := by
  rw [paramOfId, List.find?_eq_none]
  intro p _ same
  obtain ⟨low, high⟩ := paramRow_id_range p
  have named : (paramRow p).id = n := eq_of_beq same
  omega

/-! ### The requests reach the parameter block (R195, R208) -/

/-- A PARAM_GET frame passes the link's checks, and its one byte is the id (R195, R208). -/
theorem handOver_paramGet : handOver ⟨kindByte .paramGet, [id]⟩ s = takeParamGet id s := by
  simp [handOver, lengthFits, requiredLength, takeRequest, byteAt]

/-- A MAP_GET frame passes the link's checks, and its one byte is the point (R195, R208). -/
theorem handOver_mapGet : handOver ⟨kindByte .mapGet, [point]⟩ s = takeMapGet point s := by
  simp [handOver, lengthFits, requiredLength, takeRequest, byteAt]

theorem exec_paramGet_of_takesAtOnce (h : TakesAtOnce s) : exec (.paramGet id) s = .next (takeParamGet id s) := by
  rw [exec_paramGet, execParamGet, presentFrame_of_takesAtOnce _ s h, handOver_paramGet]

theorem exec_mapGet_of_takesAtOnce (h : TakesAtOnce s) : exec (.mapGet point) s = .next (takeMapGet point s) := by
  rw [exec_mapGet, execMapGet, presentFrame_of_takesAtOnce _ s h, handOver_mapGet]

/-! ### The answers (R214) -/

theorem takeParamGet_of_named {p : Param} (named : id.toNat = (paramRow p).id) :
    takeParamGet id s = accept (.paramGet id (getParam (par s) p)) s := by
  simp only [takeParamGet, named, paramOfId_paramRow]

theorem takeParamGet_of_out_of_range (outside : id.toNat = 0 ∨ 32 < id.toNat) :
    takeParamGet id s = refuse .paramGet .badValue s := by
  simp only [takeParamGet, paramOfId_of_out_of_range outside]

theorem takeMapGet_of_lt (inside : point.toNat < 9) :
    takeMapGet point s = accept (.mapGet point s.store.working.map[point.toNat]) s :=
  dif_pos inside

theorem takeMapGet_of_le (outside : 9 ≤ point.toNat) : takeMapGet point s = refuse .mapGet .badValue s :=
  dif_neg (Nat.not_lt.mpr outside)

/-- Settles O22: both frames reach the parameter block with their operand as given; an id is a parameter's own or lies outside
the catalogue's 1..32, and a point is one of the map's nine or none. -/
theorem getRequests : Obligations.GetRequests := by
  intro s atOnce
  refine ⟨fun p id named => ?_, fun id outside => ?_, fun point inside => ?_, fun point outside => ?_⟩
  · rw [exec_paramGet_of_takesAtOnce id s atOnce, takeParamGet_of_named id s named]
  · rw [exec_paramGet_of_takesAtOnce id s atOnce, takeParamGet_of_out_of_range id s outside]
  · rw [exec_mapGet_of_takesAtOnce point s atOnce, takeMapGet_of_lt point s inside]
  · rw [exec_mapGet_of_takesAtOnce point s atOnce, takeMapGet_of_le point s outside]

end Sys2Proof.Machine
end

section
/-! Facts about lists and small numbers that core Lean leaves to its libraries. -/

namespace Sys2Proof.Machine

/-- Parts of one length make a list of that many times its members. -/
theorem length_flatMap_of_const {α β : Type} {f : α → List β} {n : Nat} (each : ∀ a, (f a).length = n) (xs : List α) :
    (xs.flatMap f).length = n * xs.length := by
  induction xs with
  | nil => rfl
  | cons a xs ih => rw [List.flatMap_cons, List.length_append, ih, each, List.length_cons, Nat.mul_succ, Nat.add_comm]

theorem getD_append_of_lt {α : Type} {xs ys : List α} {i : Nat} {d : α} (inside : i < xs.length) :
    (xs ++ ys).getD i d = xs.getD i d := by
  rw [List.getD_eq_getElem?_getD, List.getD_eq_getElem?_getD, List.getElem?_append_left inside]

theorem getD_append_of_le {α : Type} {xs ys : List α} {i : Nat} {d : α} (beyond : xs.length ≤ i) :
    (xs ++ ys).getD i d = ys.getD (i - xs.length) d := by
  rw [List.getD_eq_getElem?_getD, List.getD_eq_getElem?_getD, List.getElem?_append_right beyond]

/-- What holds of each of 0 to 7 holds of every number below 8. -/
theorem forall_lt_eight {p : Nat → Prop} (all : p 0 ∧ p 1 ∧ p 2 ∧ p 3 ∧ p 4 ∧ p 5 ∧ p 6 ∧ p 7) (i : Nat) (inside : i < 8) :
    p i := by
  obtain ⟨p0, p1, p2, p3, p4, p5, p6, p7⟩ := all
  match i, inside with
  | 0, _ => exact p0
  | 1, _ => exact p1
  | 2, _ => exact p2
  | 3, _ => exact p3
  | 4, _ => exact p4
  | 5, _ => exact p5
  | 6, _ => exact p6
  | 7, _ => exact p7

end Sys2Proof.Machine
end

section
/-! Every request command at its entry: the frame passes the link's checks, and the owner takes the operands as given (R194,
R195, R208). What the reading requests, SAVE and LOAD then do (R185, R201, R205, R221, R222). -/

namespace Sys2Proof.Machine

variable (s : State)

/-! ### The requests reach their owners (R195, R208) -/

/-- A request frame of the right length that may be taken at its entry reaches its owner. -/
theorem presentFrame_eq_takeRequest (k : RequestKind) (payload : List Byte) (h : TakesAtOnce s)
    (fits : lengthFits k payload.length = true) : presentFrame ⟨kindByte k, payload⟩ s = takeRequest k payload s := by
  rw [presentFrame_of_takesAtOnce _ s h, handOver, kindOfByte_kindByte]
  exact if_pos fits

/-- PARAM_SET's value is read back from its payload (R208). -/
@[simp] theorem halfAt_paramSetPayload (id : Byte) (v : Half) : halfAt (paramSetPayload id v) 1 = v := bytes_of_half v

/-- MAP_SET's four fields are read back from its payload (R208). -/
@[simp] theorem halfAt_mapSetPayload (point : Byte) (speed kc kcs lmax : Half) :
    halfAt (mapSetPayload point speed kc kcs lmax) 1 = speed ∧ halfAt (mapSetPayload point speed kc kcs lmax) 3 = kc ∧
    halfAt (mapSetPayload point speed kc kcs lmax) 5 = kcs ∧ halfAt (mapSetPayload point speed kc kcs lmax) 7 = lmax :=
  ⟨bytes_of_half speed, bytes_of_half kc, bytes_of_half kcs, bytes_of_half lmax⟩

variable {s} (h : TakesAtOnce s)

include h

theorem exec_motion_of_takesAtOnce (payload : List Byte) : exec (.motion payload) s = .next (takeMotion payload s) :=
  congrArg Host.Outcome.next (presentFrame_eq_takeRequest s .motion payload h rfl)

theorem exec_ride_of_takesAtOnce : exec .ride s = .next (takeRide s) :=
  congrArg Host.Outcome.next (presentFrame_eq_takeRequest s .ride [] h rfl)

theorem exec_park_of_takesAtOnce : exec .park s = .next (takePark s) :=
  congrArg Host.Outcome.next (presentFrame_eq_takeRequest s .park [] h rfl)

theorem exec_home_of_takesAtOnce : exec .home s = .next (takeHome s) :=
  congrArg Host.Outcome.next (presentFrame_eq_takeRequest s .home [] h rfl)

theorem exec_clear_of_takesAtOnce : exec .clear s = .next (takeClear s) :=
  congrArg Host.Outcome.next (presentFrame_eq_takeRequest s .clear [] h rfl)

theorem exec_paramSet_of_takesAtOnce (id : Byte) (v : Half) : exec (.paramSet id v) s = .next (takeParamSet id v s) := by
  rw [exec_paramSet, execParamSet, presentFrame_eq_takeRequest s .paramSet _ h rfl, takeRequest, halfAt_paramSetPayload]
  rfl

theorem exec_mapSet_of_takesAtOnce (point : Byte) (speed kc kcs lmax : Half) :
    exec (.mapSet point speed kc kcs lmax) s = .next (takeMapSet point speed kc kcs lmax s) := by
  obtain ⟨first, second, third, fourth⟩ := halfAt_mapSetPayload point speed kc kcs lmax
  rw [exec_mapSet, execMapSet, presentFrame_eq_takeRequest s .mapSet _ h rfl, takeRequest, first, second, third, fourth]
  rfl

theorem exec_counterRead_of_takesAtOnce : exec .counterRead s = .next (takeCounterRead s) :=
  congrArg Host.Outcome.next (presentFrame_eq_takeRequest s .counterRead [] h rfl)

theorem exec_historyRead_of_takesAtOnce : exec .historyRead s = .next (takeHistoryRead s) :=
  congrArg Host.Outcome.next (presentFrame_eq_takeRequest s .historyRead [] h rfl)

theorem exec_status_of_takesAtOnce : exec .status s = .next (takeStatus s) :=
  congrArg Host.Outcome.next (presentFrame_eq_takeRequest s .status [] h rfl)

theorem exec_save_of_takesAtOnce : exec .save s = .next (takeSave s) :=
  congrArg Host.Outcome.next (presentFrame_eq_takeRequest s .save [] h rfl)

theorem exec_load_of_takesAtOnce : exec .load s = .next (takeLoad s) :=
  congrArg Host.Outcome.next (presentFrame_eq_takeRequest s .load [] h rfl)

omit h

/-- Settles O15: each request frame has its kind's length, so the link hands it over, and the owner's operands are those of
the layout. -/
theorem operandsRoundTrip : Obligations.OperandsRoundTrip := fun s h =>
  ⟨exec_motion_of_takesAtOnce h, fun n => exec_align_of_takesAtOnce n s h, exec_ride_of_takesAtOnce h,
   exec_park_of_takesAtOnce h, exec_home_of_takesAtOnce h, exec_clear_of_takesAtOnce h, exec_paramSet_of_takesAtOnce h,
   fun id => exec_paramGet_of_takesAtOnce id s h, exec_mapSet_of_takesAtOnce h,
   fun point => exec_mapGet_of_takesAtOnce point s h,
   fun n event mask mode threshold action => exec_counterSet_of_takesAtOnce n event mask mode threshold action s h,
   exec_counterRead_of_takesAtOnce h, fun mask => exec_counterClear_of_takesAtOnce mask s h,
   exec_historyRead_of_takesAtOnce h, exec_status_of_takesAtOnce h, exec_save_of_takesAtOnce h,
   exec_load_of_takesAtOnce h, exec_reset_of_takesAtOnce s h⟩

/-! ### COUNTER_READ, HISTORY_READ and STATUS (R185, R201, R205) -/

/-- Settles O23: each reading request is one ACCEPTED reply with what stands, and posting a reply touches the link alone. -/
theorem readRequests : Obligations.ReadRequests := by
  intro s h
  refine ⟨?_, ?_, ?_, fun data => ?_⟩
  · rw [exec_counterRead_of_takesAtOnce h, takeCounterRead]
  · rw [exec_historyRead_of_takesAtOnce h, takeHistoryRead]
  · rw [exec_status_of_takesAtOnce h, takeStatus]
    rfl
  · rw [accept, postReply, postLink]

/-! ### SAVE and LOAD (R221, R222) -/

theorem storeBusy_iff : storeBusy s = true ↔ s.store.state = .loading ∨ s.store.state = .saving := by simp [storeBusy]

/-- The four store states: an operation runs in two of them, and in the other two none does. -/
theorem not_storeBusy_iff : ¬ storeBusy s = true ↔ s.store.state = .idle ∨ s.store.state = .failed := by
  rw [storeBusy_iff]
  cases s.store.state <;> decide

/-- Settles O59: the two checks in order, and the record that an accepted operation starts its first poll with. -/
theorem saveAndLoad : Obligations.SaveAndLoad := by
  intro s h
  rw [exec_save_of_takesAtOnce h, exec_load_of_takesAtOnce h, ← storeBusy_iff, ← not_storeBusy_iff]
  refine ⟨fun elsewhere => ?_, fun parked busy => ?_, fun parked idle => ?_⟩
  · rw [takeSave, takeLoad, if_pos elsewhere, if_pos elsewhere]
    exact ⟨rfl, rfl⟩
  · rw [takeSave, takeLoad, if_neg (not_not_intro parked), if_neg (not_not_intro parked), if_pos busy, if_pos busy]
    exact ⟨rfl, rfl⟩
  · rw [takeSave, takeLoad, if_neg (not_not_intro parked), if_neg (not_not_intro parked), if_neg idle, if_neg idle]
    exact ⟨rfl, rfl⟩

end Sys2Proof.Machine
end

section
/-! The link's own rules: what the transmitter selects (R197), the frames of a reply (R198), a frame read back byte by byte
(R189 to R193), the levels on LTX (R188, R189), and the handover of waiting frames (R194, R195). -/

namespace Sys2Proof.Machine

variable (s : State)

/-! ### The selection (R197) -/

/-- The oldest reply is selected before any notice. -/
theorem selectToSend_of_reply (l : Link) (idle : l.transmitter = none) {r : Reply} {rest : List Reply}
    (waits : l.replyQueue = r :: rest) : selectToSend l = startSending (replyFrames r) { l with replyQueue := rest } := by
  simp [selectToSend, idle, waits]

/-- Settles O20: the selection's branches in the order in which it tries them. -/
theorem selectionOrder : Obligations.SelectionOrder := by
  intro l
  refine ⟨selectToSend_sending l, fun idle => ⟨fun r rest waits => ?_, fun empty => ?_⟩⟩
  · obtain ⟨f, more, frames⟩ := replyFrames_cons r
    refine ⟨f, more, frames, ?_⟩
    rw [selectToSend_of_reply l idle waits, frames]
    rfl
  · refine ⟨fun n a => ?_, fun n a b => ?_, fun n a b c => ?_, fun n a b c d => ?_, fun n a b c d e => ?_,
      fun r a b c d e f => ?_, selectToSend_nothing l⟩
    · simp [selectToSend, startSending, idle, empty, a]
    · simp [selectToSend, startSending, idle, empty, a, b]
    · simp [selectToSend, startSending, idle, empty, a, b, c]
    · simp [selectToSend, startSending, idle, empty, a, b, c, d]
    · simp [selectToSend, startSending, idle, empty, a, b, c, d, e]
    · simp [selectToSend, startSending, idle, empty, a, b, c, d, e, f]

/-! ### The frames of a reply (R198, R205, R208) -/

@[simp] theorem length_le16 (v : Nat) : (le16 v).length = 2 := rfl

@[simp] theorem length_le32 (v : Nat) : (le32 v).length = 4 := rfl

@[simp] theorem length_leInt16 (v : Int) : (leInt16 v).length = 2 := rfl

@[simp] theorem length_recordBytes (r : AbortRecord) : (recordBytes r).length = 11 := rfl

@[simp] theorem length_statusBytes (r : StatusRecord) : (statusBytes r).length = 35 := rfl

/-- A frame's data of a HISTORY_READ reply holds at most four records. -/
theorem length_historyBytes_le (records : List AbortRecord) (first : Nat) :
    (historyBytes records first).length ≤ 46 := by
  have taken : ((records.drop first).take 4).length ≤ 4 := List.length_take_le _ _
  simp only [historyBytes, List.length_append, length_flatMap_of_const length_recordBytes, List.length_cons,
    List.length_nil]
  omega

/-- The data of every frame of a reply fits a payload beside the echoed kind (R198). -/
theorem length_replyDataFrames_le (data : ReplyData)
    (counters : ∀ values, data = .counterRead values → values.length = 8) :
    ∀ d ∈ replyDataFrames data, d.length ≤ 47 := by
  cases data
  case counterRead values =>
    have each (p : Nat × Bool) : (le32 p.1 ++ [flagByte p.2]).length = 5 := rfl
    simp [replyDataFrames, length_flatMap_of_const each, counters values rfl]
  case historyRead records =>
    have bound := length_historyBytes_le records
    have fits (first : Nat) : (historyBytes records first).length ≤ 47 := Nat.le_trans (bound first) (by decide)
    by_cases short : records.length ≤ 4 <;> simp [replyDataFrames, short, fits]
  all_goals simp [replyDataFrames, configBytes, pointBytes]

/-- A reply is one frame, or two for a HISTORY_READ of more than four records (R205). -/
theorem length_replyDataFrames (data : ReplyData) :
    (replyDataFrames data).length = 1 ∨
      ((replyDataFrames data).length = 2 ∧ ∃ records, data = .historyRead records ∧ 4 < records.length) := by
  cases data
  case historyRead records =>
    by_cases short : records.length ≤ 4
    · simp [replyDataFrames, short]
    · refine .inr ⟨?_, records, rfl, Nat.lt_of_not_le short⟩
      simp [replyDataFrames, short]
  all_goals exact .inl rfl

/-- Settles O21: an ACCEPTED frame is the echoed kind and its data, a REFUSED one is two bytes. -/
theorem repliesFitTheirFrames : Obligations.RepliesFitTheirFrames := by
  rintro (data | ⟨kind, code⟩) counters -
  · have fits := length_replyDataFrames_le data fun values same => counters values (same ▸ rfl)
    refine ⟨fun f framed => ?_, ?_⟩
    · obtain ⟨d, mem, rfl⟩ := List.mem_map.mp framed
      have := fits d mem
      simp only [List.length_cons]
      omega
    · obtain one | ⟨two, records, rfl, long⟩ := length_replyDataFrames data
      · exact .inl ((List.length_map ..).trans one)
      · exact .inr ⟨(List.length_map ..).trans two, records, rfl, long⟩
  · exact ⟨by simp [replyFrames], .inl rfl⟩

/-! ### A frame read back (R189 to R193) -/

/-- Only the latest assembly stands. -/
@[simp] theorem assemble_assemble (r r' : Receiver) : assemble r (assemble r' s) = assemble r s := rfl

@[simp] theorem endAssembly_assemble (r : Receiver) : endAssembly (assemble r s) = endAssembly s := rfl

/-- The payload bytes, taken one after another, complete the payload. -/
theorem foldl_linkByteStep_payload (n : Nat) (k : Byte) (rest : List Byte) (some : rest ≠ []) :
    ∀ taken : List Byte, taken.length + rest.length = n →
      rest.foldl (fun u b => linkByteStep b u) (assemble (.payload n k taken) s) =
        assemble (.crcHi k (taken ++ rest)) s := by
  induction rest with
  | nil => exact absurd rfl some
  | cons b rest ih =>
    intro taken total
    rw [List.length_cons] at total
    rw [List.foldl_cons, linkByteStep_of_payload b _ rfl (by omega), assemble_assemble]
    cases rest with
    | nil => rw [if_pos (by simpa using total)]; rfl
    | cons c rest =>
      rw [if_neg (by rw [List.length_cons] at total; omega),
        ih (List.cons_ne_nil c rest) (taken ++ [b]) (by simp at total ⊢; omega), List.append_assoc]
      rfl

/-- KIND and payload, taken one after another, whatever the payload's length. -/
theorem foldl_linkByteStep_kind (k : Byte) (payload : List Byte) :
    (k :: payload).foldl (fun u b => linkByteStep b u) (assemble (.kind payload.length) s) =
      assemble (.crcHi k payload) s := by
  rw [List.foldl_cons, linkByteStep_of_kind k _ rfl, assemble_assemble]
  cases payload with
  | nil => rfl
  | cons b rest =>
    rw [if_neg (by simp : ¬ (b :: rest).length = 0), foldl_linkByteStep_payload s _ k _ (List.cons_ne_nil b rest) [] (by simp)]
    rfl

/-- The CRC field's two bytes, high byte first, are read back. -/
theorem crc_of_bytes (crc : Half) : (crc.extractLsb' 8 8 ++ crc.extractLsb' 0 8 : Half) = crc := by
  refine BitVec.eq_of_toNat_eq ?_
  have bound := crc.isLt
  rw [toNat_append_byte]
  simp only [BitVec.extractLsb'_toNat, Nat.shiftRight_eq_div_pow]
  omega

/-- Settles O14: from HUNT the start byte, LEN, KIND and payload lead to the CRC bytes, whose verdict finds the frame's own
CRC. -/
theorem framesRoundTrip : Obligations.FramesRoundTrip := by
  refine ⟨fun b s => rfl, fun f s fits hunt => ?_⟩
  have len : (byteOf f.payload.length).toNat = f.payload.length := by
    rw [byteOf, BitVec.toNat_ofNat]
    omega
  have line : frameLine f = 0xC3 :: byteOf f.payload.length :: ((f.kind :: f.payload) ++
      [(frameCrc f.kind f.payload).extractLsb' 8 8, (frameCrc f.kind f.payload).extractLsb' 0 8]) := by
    simp [frameLine]
  rw [line, List.foldl_cons, List.foldl_cons, linkByteStep_of_hunt _ s hunt, if_pos rfl,
    linkByteStep_of_len _ _ rfl, len, if_pos fits, assemble_assemble, List.foldl_append, foldl_linkByteStep_kind,
    List.foldl_cons, linkByteStep_of_crcHi _ _ rfl, assemble_assemble, List.foldl_cons, List.foldl_nil,
    linkByteStep_of_crcLo _ _ rfl, endAssembly_assemble, crcVerdict_of_eq _ (crc_of_bytes _).symm, endAssembly]

/-! ### The levels on LTX (R188, R189) -/

/-- Bit i of a mask byte is the i-th flag (R208). -/
theorem getLsbD_maskOf (flags : List Bool) (i : Nat) (inside : i < 8) :
    (maskOf flags).getLsbD i = flags.getD i false := by
  have bits : ∀ (flags : List Bool) (i : Nat),
      (flags.foldr (fun (b : Bool) n => b.toNat + 2 * n) 0).testBit i = flags.getD i false := by
    intro flags
    induction flags with
    | nil => simp
    | cons b rest ih =>
      rintro (_ | i)
      · cases b <;> simp
      · have half : (b.toNat + 2 * rest.foldr (fun b n => b.toNat + 2 * n) 0) / 2 =
            rest.foldr (fun b n => b.toNat + 2 * n) 0 := by cases b <;> simp; omega
        rw [List.foldr_cons, Nat.testBit_succ, half, ih i, List.getD_cons_succ]
  rw [maskOf, byteOf, BitVec.getLsbD_ofNat, bits, decide_eq_true inside, Bool.true_and]

@[simp] theorem length_characterBits (b : Byte) : (characterBits b).length = 10 := rfl

/-- Bit time j of character k of a run of characters. -/
theorem getD_flatMap_characterBits (bytes : List Byte) (k j : Nat) (b : Byte) (char : bytes[k]? = some b) (inside : j < 10)
    (rest : Bool) : (bytes.flatMap characterBits).getD (10 * k + j) rest = (characterBits b).getD j rest := by
  induction bytes generalizing k with
  | nil => simp at char
  | cons c bytes ih =>
    rw [List.flatMap_cons]
    cases k with
    | zero =>
      obtain rfl : c = b := by simpa using char
      rw [getD_append_of_lt (by simpa using inside)]
      simp
    | succ k =>
      rw [getD_append_of_le (by simp; omega), length_characterBits,
        show 10 * (k + 1) + j - 10 = 10 * k + j by omega]
      exact ih k (by simpa using char)

theorem ltxHigh_of_idle (l : Link) (idle : l.transmitter = none) (i : Nat) : ltxHigh l i = true := by
  simp [ltxHigh, idle]

theorem ltxHigh_of_sending (l : Link) {f : Frame} {more : List Frame} (sending : l.transmitter = some ⟨f, more⟩)
    {k : Nat} {b : Byte} (char : (frameLine f)[k]? = some b) (j : Nat) (inside : j < 10) :
    ltxHigh l (10 * k + j) = (characterBits b).getD j true := by
  simp only [ltxHigh, sending]
  exact getD_flatMap_characterBits _ k j b char inside true

/-- The levels of one character: the start bit, the data bits, the stop bit (R189). -/
theorem characterBits_getD (b : Byte) :
    (characterBits b).getD 0 true = false ∧ (∀ j, j < 8 → (characterBits b).getD (1 + j) true = b.getLsbD j) ∧
      (characterBits b).getD 9 true = true :=
  ⟨rfl, forall_lt_eight ⟨rfl, rfl, rfl, rfl, rfl, rfl, rfl, rfl⟩, rfl⟩

theorem length_frameBits (f : Frame) : (frameBits f).length = 10 * (frameLine f).length :=
  length_flatMap_of_const length_characterBits _

/-- A character is taken with its data bits, whatever its stop bit (R189). -/
theorem receivedByte_characterBits (b : Byte) (stop : Bool) : receivedByte ((characterBits b).take 9 ++ [stop]) = b := by
  refine BitVec.eq_of_getLsbD_eq fun i inside => ?_
  rw [receivedByte, getLsbD_maskOf _ i inside]
  exact forall_lt_eight (p := fun i =>
    (((((characterBits b).take 9 ++ [stop]).drop 1).take 8).getD i false) = b.getLsbD i)
    ⟨rfl, rfl, rfl, rfl, rfl, rfl, rfl, rfl⟩ i inside

/-! ### Waiting frames (R194) -/

/-- A frame that may not be taken stops the handover. -/
theorem handOverWaiting_of_waits (n : Nat) {f : Frame} {rest : List Frame} (head : s.link.receiveQueue = f :: rest)
    (waits : mayTake f s.link = false) : handOverWaiting n s = s := by
  cases n with
  | zero => rfl
  | succ n => simp [handOverWaiting, head, waits]

theorem proceedHandover_of_empty (empty : s.link.receiveQueue = []) : proceedHandover s = s := by
  simp [proceedHandover, empty, handOverWaiting]

theorem proceedHandover_of_waits {f : Frame} {rest : List Frame} (head : s.link.receiveQueue = f :: rest)
    (waits : mayTake f s.link = false) : proceedHandover s = s :=
  handOverWaiting_of_waits s _ head waits

theorem mayTake_iff (f : Frame) (l : Link) :
    mayTake f l = true ↔ l.handover = .opened ∧ (f.kind = 0x01 ∨ l.replyQueue.length < 4) := by
  simp [mayTake, kindByte]

theorem mayTake_of_closed (f : Frame) (l : Link) (closed : l.handover = .closed) : mayTake f l = false := by
  simp [mayTake, closed]

/-- While handover is CLOSED no frame is handed over. -/
theorem proceedHandover_of_closed (closed : s.link.handover = .closed) : proceedHandover s = s := by
  cases queue : s.link.receiveQueue with
  | nil => exact proceedHandover_of_empty s queue
  | cons f rest => exact proceedHandover_of_waits s queue (mayTake_of_closed f _ closed)

end Sys2Proof.Machine
end

section
/-! Frames that are refused, wait or are dropped (R193 to R195), and the events of the transmitter (R194, R197, R198, R200). -/

namespace Sys2Proof.Machine

variable (s : State)

/-! ### Refused frames (R195) -/

theorem kindOfByte_of_unknown {kind : Byte} (unknown : kind ∉ requestKindCodes) : kindOfByte kind = none := by
  rw [kindOfByte, List.find?_eq_none]
  intro k _ same
  obtain rfl : kindByte k = kind := eq_of_beq same
  cases k <;> exact unknown (by decide)

theorem handOver_of_unknown {kind : Byte} (payload : List Byte) (unknown : kind ∉ requestKindCodes) :
    handOver ⟨kind, payload⟩ s = postReply (.refused kind .unknownKind) s := by
  simp only [handOver, kindOfByte_of_unknown unknown]

theorem handOver_of_wrong_length (k : RequestKind) {n : Nat} {payload : List Byte} (required : requiredLength k = some n)
    (wrong : payload.length ≠ n) : handOver ⟨kindByte k, payload⟩ s = refuse k .badLength s := by
  simp [handOver, lengthFits, required, wrong]

/-! ### Waiting and dropped frames (R193, R194) -/

/-- Every request command presents its frame to the receive queue (log 6). -/
theorem exec_of_requestFrame {c : Instr} {f : Frame} (presents : requestFrame c = some f) :
    exec c s = .next (presentFrame f s) := by
  cases c <;> simp only [requestFrame, reduceCtorEq, Option.some.injEq] at presents <;> subst presents <;> rfl

theorem presentFrame_of_full (f : Frame) (full : 4 ≤ s.link.receiveQueue.length) : presentFrame f s = s :=
  if_neg (Nat.not_lt.mpr full)

/-- With a frame at the head that may not be taken, a frame for which there is room waits. -/
theorem presentFrame_of_waits (f : Frame) (room : s.link.receiveQueue.length < 4)
    (waits : ∀ g rest, s.link.receiveQueue ++ [f] = g :: rest → mayTake g s.link = false) :
    presentFrame f s = setReceiveQueue (s.link.receiveQueue ++ [f]) s := by
  obtain ⟨g, rest, queue⟩ := List.exists_cons_of_ne_nil (List.append_ne_nil_of_right_ne_nil s.link.receiveQueue
    (List.cons_ne_nil f []))
  rw [presentFrame, if_pos room, queue, proceedHandover_of_waits _ rfl]
  exact waits g rest queue

/-- Settles O18: the two refusals of R195, and a request frame behind a head that may not be taken. -/
theorem handovers : Obligations.Handovers := by
  refine ⟨fun kind payload s h unknown => ?_, fun k n payload s required wrong => ?_, fun c f s presents waits => ?_⟩
  · rw [exec_unknownKind, execUnknownKind, presentFrame_of_takesAtOnce _ s h, handOver_of_unknown s payload unknown,
      postReply, postLink]
  · rw [handOver_of_wrong_length s k required wrong, refuse, postReply, postLink]
  · rw [exec_of_requestFrame s presents]
    refine ⟨fun room => ?_, fun full => ?_⟩
    · rw [presentFrame_of_waits s f room waits, setReceiveQueue]
    · rw [presentFrame_of_full s f full]

/-! ### The end of a frame (R197, R198) -/

theorem execStatusTimerExpiry_of_due (due : s.link.statusTimer = some (now s)) :
    execStatusTimerExpiry s = .next (statusTimerStep s) := by
  rw [execStatusTimerExpiry, statusDue, decide_eq_true due, if_pos rfl]

theorem resetReplySending_of_opened (l : Link) (opened : l.handover = .opened) : resetReplySending l = false := by
  simp [resetReplySending, opened]

theorem transmitEndStep_of_idle (idle : s.link.transmitter = none) : transmitEndStep s = s := by
  simp [transmitEndStep, resetReplySending, idle]

/-- A further frame of the same reply follows without a selection. -/
theorem transmitEndStep_of_more {f g : Frame} {rest : List Frame} (sending : s.link.transmitter = some ⟨f, g :: rest⟩) :
    transmitEndStep s = { s with link := { s.link with transmitter := some ⟨g, rest⟩ } } := by
  simp [transmitEndStep, resetReplySending, sending]

/-- The end of a reply, or of a notice, that is not the RESET reply makes the transmitter idle. -/
theorem transmitEndStep_of_last {f : Frame} (sending : s.link.transmitter = some ⟨f, []⟩)
    (goesOn : resetReplySending s.link = false) :
    transmitEndStep s = proceedHandover { s with link := selectToSend { s.link with transmitter := none } } := by
  simp only [transmitEndStep, goesOn, Bool.false_eq_true, ↓reduceIte, sending, postLink]

theorem resetReplySending_of_ne (l : Link) {f : Frame} (sending : l.transmitter = some ⟨f, []⟩)
    (other : f ≠ ⟨0x80, [0x7F]⟩) : resetReplySending l = false := by
  have : f ≠ resetReplyFrame := other
  simp [resetReplySending, sending, this]

/-! ### Handover takes the waiting frames one after another (R194) -/

/-- A frame whose KIND is MOTION asks for no reply, so it is handed over whatever the reply queue holds. -/
theorem proceedHandover_of_takes {g : Frame} {rest : List Frame} (head : s.link.receiveQueue = g :: rest)
    (takes : mayTake g s.link = true)
    (keeps : (handOver g (setReceiveQueue rest s)).link.receiveQueue = rest) :
    proceedHandover s = proceedHandover (handOver g (setReceiveQueue rest s)) := by
  simp [proceedHandover, head, handOverWaiting, takes, keeps]

end Sys2Proof.Machine
end

section
/-! Normal forms: a drive command, an ended saturation and a saturation test each write one drive record and tell the counter
unit whether the saturated sub-condition changed (R146 to R148, R154); a delivery commutes with every write beside the counters
and the link; SAFE entry and RIDE acceptance write the regime record once. -/

namespace Sys2Proof.Machine

variable (s : State)

/-! ### A delivery commutes with the writes of other blocks -/

theorem offerAll_beside (take : Counter → Counter × Bool) (u : State) (time : now u = now s) :
    offerAll take (beside u s) = beside u (offerAll take s) :=
  foldl_offerTo_beside take counterIndices u s time

/-- A write that neither reads nor changes the counters, the link and the time. -/
structure WriteBeside (w : State → State) (s : State) : Prop where
  apart : ∀ t, w (beside s t) = beside (w s) t
  time : now (w s) = now s

variable {s}

theorem offerAll_comm (take : Counter → Counter × Bool) {w : State → State} (h : WriteBeside w s) :
    offerAll take (w s) = w (offerAll take s) := by
  have framed : offerAll take s = beside s (offerAll take s) := offerAll_beside s take s rfl
  rw [framed, h.apart, ← offerAll_beside s take _ h.time, ← h.apart]
  rfl

theorem deliver_comm (e : CounterEvent) (kinds : Byte) {w : State → State} (h : WriteBeside w s) :
    deliver e kinds (w s) = w (deliver e kinds s) := offerAll_comm _ h

theorem deliverConditions_comm (new : Conditions) {w : State → State} (h : WriteBeside w s) :
    deliverConditions new (w s) = w (deliverConditions new s) := by
  have framed : deliverConditions new s = beside s (deliverConditions new s) := deliverConditions_beside new s s rfl
  rw [framed, h.apart, ← deliverConditions_beside new _ s h.time, ← h.apart]
  rfl

theorem deliverSaturated_comm (d : DriveId) (v : Bool) {w : State → State} (h : WriteBeside w s) :
    deliverSaturated d v (w s) = w (deliverSaturated d v s) := by
  have framed := deliverSaturated_eq_beside d v s
  rw [framed, h.apart, ← deliverSaturated_beside d v _ s h.time, ← h.apart]
  rfl

variable (s)

theorem setDrive_writesBeside (d : DriveId) (r : Drive) : WriteBeside (setDrive d r) s :=
  ⟨fun _ => by cases d <;> rfl, by cases d <;> rfl⟩

/-- The regime record written. -/
def putRegime (r : RegimeControl) (s : State) : State := { s with regime := r }

@[simp] theorem putRegime_fields (r : RegimeControl) :
    (putRegime r s).pending = s.pending ∧ (putRegime r s).pins = s.pins ∧ (putRegime r s).link = s.link ∧
    (putRegime r s).timeBase = s.timeBase ∧ (putRegime r s).intake = s.intake ∧
    (putRegime r s).channels = s.channels ∧ (putRegime r s).wheels = s.wheels ∧ (putRegime r s).law = s.law ∧
    (putRegime r s).regime = r ∧ (putRegime r s).drives = s.drives ∧ (putRegime r s).counters = s.counters ∧
    (putRegime r s).store = s.store := ⟨rfl, rfl, rfl, rfl, rfl, rfl, rfl, rfl, rfl, rfl, rfl, rfl⟩

/-- The regime record and the brake written together. -/
def putControl (r : RegimeControl) (b : Brake) (s : State) : State :=
  { s with regime := r, drives := { s.drives with brake := b } }

@[simp] theorem putControl_fields (r : RegimeControl) (b : Brake) :
    (putControl r b s).pending = s.pending ∧ (putControl r b s).pins = s.pins ∧ (putControl r b s).link = s.link ∧
    (putControl r b s).timeBase = s.timeBase ∧ (putControl r b s).intake = s.intake ∧
    (putControl r b s).channels = s.channels ∧ (putControl r b s).wheels = s.wheels ∧ (putControl r b s).law = s.law ∧
    (putControl r b s).regime = r ∧ (putControl r b s).drives = { s.drives with brake := b } ∧
    (putControl r b s).counters = s.counters ∧ (putControl r b s).store = s.store :=
  ⟨rfl, rfl, rfl, rfl, rfl, rfl, rfl, rfl, rfl, rfl, rfl, rfl⟩

theorem putControl_writesBeside (r : RegimeControl) (b : Brake) : WriteBeside (putControl r b) s := ⟨fun _ => rfl, rfl⟩

/-! ### One drive record written, with the saturation told (R154) -/

/-- The counter unit is told when a drive's saturated sub-condition becomes another (R154). -/
def tellSaturated (d : DriveId) (v : Bool) (s : State) : State :=
  if (getDrive s d).saturated = v then s else deliverSaturated d v s

/-- A drive record written, with a change of its saturated sub-condition told. -/
def putDrive (d : DriveId) (r : Drive) (s : State) : State := setDrive d r (tellSaturated d r.saturated s)

@[simp] theorem tellSaturated_frame (d : DriveId) (v : Bool) :
    (tellSaturated d v s).pending = s.pending ∧ (tellSaturated d v s).pins = s.pins ∧
    (tellSaturated d v s).timeBase = s.timeBase ∧ (tellSaturated d v s).intake = s.intake ∧
    (tellSaturated d v s).channels = s.channels ∧ (tellSaturated d v s).wheels = s.wheels ∧
    (tellSaturated d v s).law = s.law ∧ (tellSaturated d v s).regime = s.regime ∧
    (tellSaturated d v s).drives = s.drives ∧ (tellSaturated d v s).store = s.store := by
  unfold tellSaturated
  split <;> simp

@[simp] theorem putDrive_frame (d : DriveId) (r : Drive) :
    (putDrive d r s).pending = s.pending ∧ (putDrive d r s).pins = s.pins ∧
    (putDrive d r s).timeBase = s.timeBase ∧ (putDrive d r s).intake = s.intake ∧
    (putDrive d r s).channels = s.channels ∧ (putDrive d r s).wheels = s.wheels ∧
    (putDrive d r s).law = s.law ∧ (putDrive d r s).regime = s.regime ∧ (putDrive d r s).store = s.store := by
  simp [putDrive]

@[simp] theorem getDrive_tellSaturated (d e : DriveId) (v : Bool) : getDrive (tellSaturated d v s) e = getDrive s e := by
  cases e <;> simp [getDrive]

@[simp] theorem getDrive_leavingTold (d e : DriveId) : getDrive (leavingTold d s) e = getDrive s e := by
  rw [leavingTold_eq_beside]
  rfl

@[simp] theorem getDrive_putDrive (d : DriveId) (r : Drive) : getDrive (putDrive d r s) d = r := by simp [putDrive]

/-- A drive record without a change of the saturation is written alone. -/
theorem putDrive_of_same (d : DriveId) (r : Drive) (same : (getDrive s d).saturated = r.saturated) :
    putDrive d r s = setDrive d r s := by rw [putDrive, tellSaturated, if_pos same]

/-- A second write with its tale replaces a write that told nothing. -/
theorem putDrive_setDrive (d : DriveId) (r r' : Drive) (same : r'.saturated = (getDrive s d).saturated) :
    putDrive d r (setDrive d r' s) = putDrive d r s := by
  unfold putDrive tellSaturated
  rw [getDrive_setDrive, same]
  split
  · exact setDrive_setDrive d r r' s
  · rw [deliverSaturated_setDrive, setDrive_setDrive]

theorem saturationTest_eq (d : DriveId) (full : Bool) :
    saturationTest d full s = putDrive d { getDrive s d with saturated := full } s := by
  unfold saturationTest putDrive tellSaturated
  split
  · next same =>
    subst same
    exact (setDrive_getDrive d s).symm
  · exact deliverSaturated_setDrive d d full _ s

/-- Ending a saturation is the saturation test for "not at full duty" (R154). -/
theorem endSaturation_eq (d : DriveId) : endSaturation d s = putDrive d { getDrive s d with saturated := false } s := by
  rw [← saturationTest_eq]
  unfold endSaturation saturationTest
  cases (getDrive s d).saturated <;> rfl

/-- A drive record written and its saturation ended. -/
theorem endSaturation_setDrive_eq (d : DriveId) (r : Drive) (same : r.saturated = (getDrive s d).saturated) :
    endSaturation d (setDrive d r s) = putDrive d { r with saturated := false } s := by
  rw [endSaturation_eq, getDrive_setDrive, putDrive_setDrive s d _ r same]

/-- Leaving a mode tells of a saturation as the record that is left has it. -/
theorem leavingTold_eq (d : DriveId) : leavingTold d s = tellSaturated d (leftRecord (getDrive s d)).saturated s := by
  unfold leavingTold tellSaturated endsSaturation leftRecord
  cases (getDrive s d).mode <;> cases (getDrive s d).saturated <;> simp

/-! ### A mode command (R146, R147, R148, R156) -/

/-- The record of a drive after a mode command, unless the drive is in FAULT (R146 to R148, R156). -/
def commandedRecord (d : DriveId) (cmd : DriveCommand) (s : State) : Drive :=
  match cmd with
  | .off => offRecord (getDrive s d)
  | .creep =>
    if (getDrive s d).mode = .creep then getDrive s d
    else { leftRecord (getDrive s d) with
      mode := .creep, creepTimer := some (after (now s) 3000000), shadow := creepDuty s d }
  | .hold x =>
    { (if (getDrive s d).mode = .hold then getDrive s d else leftRecord (getDrive s d)) with
      mode := .hold
      holdTarget := some x
      ePrev := (angle s (driveChannel d)).map (fun a => x - a)
      shadow := 0
      satStart := none }
  | .run =>
    if (getDrive s d).mode = .run then getDrive s d
    else { leftRecord (getDrive s d) with
      mode := .run
      holdTarget := none
      ePrev := (angle s (driveChannel d)).map (fun a => publishedTarget s d - a)
      shadow := 0
      satStart := none }

theorem leaveMode_putDrive (d : DriveId) : leaveMode d s = putDrive d (leftRecord (getDrive s d)) s := by
  rw [leaveMode_eq, leavingTold_eq, putDrive]

theorem putDrive_getDrive (d : DriveId) : putDrive d (getDrive s d) s = s := by
  rw [putDrive_of_same s d _ rfl, setDrive_getDrive]

theorem setDrive_putDrive (d : DriveId) (r r' : Drive) (same : r.saturated = r'.saturated) :
    setDrive d r (putDrive d r' s) = putDrive d r s := by
  rw [putDrive, setDrive_setDrive, putDrive, same]

@[simp] theorem angle_putDrive (d : DriveId) (r : Drive) (c : ChannelId) : angle (putDrive d r s) c = angle s c := by
  cases c <;> simp [angle, getChannel, par] <;> rfl

@[simp] theorem creepDuty_putDrive (d e : DriveId) (r : Drive) : creepDuty (putDrive d r s) e = creepDuty s e := by
  simp [creepDuty, par]

@[simp] theorem now_putDrive (d : DriveId) (r : Drive) : now (putDrive d r s) = now s := by simp [now]

@[simp] theorem par_putDrive (d : DriveId) (r : Drive) : par (putDrive d r s) = par s := by simp [par]

theorem commandDrive_of_fault (d : DriveId) (cmd : DriveCommand) (fault : (getDrive s d).mode = .fault) :
    commandDrive d cmd s = s := by
  unfold commandDrive
  rw [fault]

/-- A mode command writes one record, and tells of a saturation that ends (R146, R154). -/
theorem commandDrive_eq (d : DriveId) (cmd : DriveCommand) (able : (getDrive s d).mode ≠ .fault) :
    commandDrive d cmd s = putDrive d (commandedRecord d cmd s) s := by
  cases cmd with
  | off =>
    rw [commandOff_eq, leavingTold_eq, putDrive]
    congr 2
    show _ = (offRecord _).saturated
    unfold offRecord leftRecord bridgeOff
    cases (getDrive s d).mode <;> simp
  | creep =>
    unfold commandDrive commandedRecord
    cases mode : (getDrive s d).mode <;>
      simp_all [enterCreep, leaveMode_putDrive, setDrive_putDrive, putDrive_getDrive]
  | hold x =>
    unfold commandDrive commandedRecord
    cases mode : (getDrive s d).mode <;>
      simp_all [enterLoop, leaveMode_putDrive, setDrive_putDrive, putDrive_of_same]
  | run =>
    unfold commandDrive commandedRecord
    cases mode : (getDrive s d).mode <;>
      simp_all [enterLoop, leaveMode_putDrive, setDrive_putDrive, putDrive_getDrive]

/-! ### A mode command beside writes of the regime and the brake -/

theorem putDrive_putControl (d : DriveId) (r : Drive) (c : RegimeControl) (b : Brake) :
    putDrive d r (putControl c b s) = putControl c b (putDrive d r s) := by
  have same : (getDrive (putControl c b s) d).saturated = (getDrive s d).saturated := by cases d <;> rfl
  unfold putDrive tellSaturated
  rw [same]
  split
  · cases d <;> rfl
  · rw [deliverSaturated_comm d _ (putControl_writesBeside s c b)]
    cases d <;> rfl

/-- A mode command reads and writes neither the regime nor the brake. -/
theorem commandDrive_putControl (d : DriveId) (cmd : DriveCommand) (c : RegimeControl) (b : Brake) :
    commandDrive d cmd (putControl c b s) = putControl c b (commandDrive d cmd s) := by
  have drive : getDrive (putControl c b s) d = getDrive s d := by cases d <;> rfl
  have record : commandedRecord d cmd (putControl c b s) = commandedRecord d cmd s := by
    cases cmd <;> cases d <;> rfl
  by_cases fault : (getDrive s d).mode = .fault
  · rw [commandDrive_of_fault _ d cmd (drive ▸ fault), commandDrive_of_fault s d cmd fault]
  · rw [commandDrive_eq _ d cmd (drive ▸ fault), commandDrive_eq s d cmd fault, record, putDrive_putControl]

theorem putRegime_eq_putControl (r : RegimeControl) : putRegime r s = putControl r s.drives.brake s := rfl

@[simp] theorem commandDrive_brake (d : DriveId) (cmd : DriveCommand) :
    (commandDrive d cmd s).drives.brake = s.drives.brake := by
  by_cases fault : (getDrive s d).mode = .fault
  · rw [commandDrive_of_fault s d cmd fault]
  · simp [commandDrive_eq s d cmd fault, putDrive]

theorem commandDrive_putRegime (d : DriveId) (cmd : DriveCommand) (r : RegimeControl) :
    commandDrive d cmd (putRegime r s) = putRegime r (commandDrive d cmd s) := by
  rw [putRegime_eq_putControl, commandDrive_putControl, putRegime_eq_putControl, commandDrive_brake]

theorem commandEngage_putRegime (r : RegimeControl) : commandEngage (putRegime r s) = putRegime r (commandEngage s) := by
  unfold commandEngage
  cases h : s.drives.brake.state <;> simp [h, startEngaging] <;> split <;> rfl

end Sys2Proof.Machine
end

section
/-! Moves: the single acts of which every command consists. Each writes one part of the state and keeps what safety says of that
part; the invariants of Safety.lean are proved move by move, and every operation is shown once to be a run of moves. -/

namespace Sys2Proof.Machine

/-! ### The link beside its receiver and its replies -/

/-- What postings of notices do to a link: its receiver's side stays, and while an idle transmitter has nothing to send the
reply queue stays too. -/
structure Quiet (l l' : Link) : Prop where
  receiver : l'.receiver = l.receiver
  gapTimer : l'.gapTimer = l.gapTimer
  receiveQueue : l'.receiveQueue = l.receiveQueue
  handover : l'.handover = l.handover
  replies : (l.transmitter = none → NothingPending l) →
    l'.replyQueue = l.replyQueue ∧ (l'.transmitter = none → NothingPending l')

theorem Quiet.refl (l : Link) : Quiet l l := ⟨rfl, rfl, rfl, rfl, fun idle => ⟨rfl, idle⟩⟩

theorem Quiet.trans {l m n : Link} (first : Quiet l m) (second : Quiet m n) : Quiet l n where
  receiver := second.receiver.trans first.receiver
  gapTimer := second.gapTimer.trans first.gapTimer
  receiveQueue := second.receiveQueue.trans first.receiveQueue
  handover := second.handover.trans first.handover
  replies idle := by
    obtain ⟨replies, idle⟩ := first.replies idle
    obtain ⟨replies', idle⟩ := second.replies idle
    exact ⟨replies'.trans replies, idle⟩

theorem nothingPending_iff (l : Link) :
    NothingPending l ↔ l.replyQueue = [] ∧ l.regimeSlot = none ∧ l.faultSlot = none ∧ l.storeSlot = none ∧
      l.thresholdSlot = none ∧ l.timebaseSlot = none ∧ l.statusSlot = none :=
  ⟨fun ⟨a, b, c, d, e, f, g⟩ => ⟨a, b, c, d, e, f, g⟩, fun ⟨a, b, c, d, e, f, g⟩ => ⟨a, b, c, d, e, f, g⟩⟩

/-- A transmitter that is still idle after the selection has nothing to send (R197). -/
theorem selectToSend_idle (l : Link) (idle : (selectToSend l).transmitter = none) : NothingPending (selectToSend l) := by
  cases sending : l.transmitter with
  | some t =>
    rw [selectToSend_sending l (by rw [sending]; rfl), sending] at idle
    contradiction
  | none =>
    cases queue : l.replyQueue with
    | cons r rest =>
      obtain ⟨f, more, frames⟩ := replyFrames_cons r
      simp [selectToSend_of_reply l sending queue, frames, startSending] at idle
    | nil =>
      revert idle
      simp only [selectToSend, queue, sending, startSending]
      repeat' split
      all_goals simp_all [nothingPending_iff]

theorem selectToSend_replyQueue_of_empty (l : Link) (empty : l.replyQueue = []) : (selectToSend l).replyQueue = [] := by
  have bound := selectToSend_replyQueue l
  rw [empty] at bound
  exact List.length_eq_zero_iff.mp (Nat.le_zero.mp bound)

/-- Posting a notice: the receiver's side and the reply queue stay until the selection (R197). -/
theorem quiet_post {l l' : Link} (receiver : l'.receiver = l.receiver) (gapTimer : l'.gapTimer = l.gapTimer)
    (receiveQueue : l'.receiveQueue = l.receiveQueue) (handover : l'.handover = l.handover)
    (replyQueue : l'.replyQueue = l.replyQueue) (transmitter : l'.transmitter = l.transmitter) :
    Quiet l (selectToSend l') := by
  obtain ⟨a, b, c, d, -⟩ := selectToSend_fields l'
  refine ⟨a.trans receiver, b.trans gapTimer, c.trans receiveQueue, d.trans handover, fun idle => ⟨?_, selectToSend_idle l'⟩⟩
  cases sending : l.transmitter with
  | none =>
    rw [(idle sending).replies, selectToSend_replyQueue_of_empty l' (replyQueue.trans (idle sending).replies)]
  | some _ => rw [selectToSend_sending l' (by rw [transmitter, sending]; rfl), replyQueue]

/-! ### The moves -/

/-- The presence rules and the form of the regime record (R31, R42, R62, R63). -/
structure RegimeForm (r : RegimeControl) : Prop where
  releaseBlend : r.regime = .release ↔ ∃ b, r.blend = some b ∧ b.kind = .release
  captureBlend : r.regime = .capture ↔ ∃ b, r.blend = some b ∧ b.kind = .capture
  alphaStart : ∀ b, r.blend = some b → b.alphaStart ≤ 1024
  dwell : r.dwellStart.isSome = true → r.regime = .uprightHold
  phase : r.phase.isSome = true ↔ r.regime = .homing
  safeDrive : r.safeHolding.isSome = true ↔ r.regime = .safe
  historyBound : r.history.length ≤ 8
  records : ∀ x ∈ r.history, RecordSafe x

/-- Every counter's record keeps its form beside the condition table. -/
def CountersSafe (u : CounterUnit) : Prop := ∀ c ∈ u.counters.toList, CounterSafe u.conditions c

/-- The state with a calibration in force and every value it limits brought within the new limits (R24, R76, R140, R150). -/
def retuned (c : Calibration) (s : State) : State :=
  let old := par s
  let new := c.params
  { s with
    store := { s.store with working := c }
    law := { s.law with
      lambdaT := if old.tiltLimit = new.tiltLimit then s.law.lambdaT else clampSym new.tiltLimit s.law.lambdaT
      deltaT := if old.steerLimit = new.steerLimit then s.law.deltaT else clampSym new.steerLimit s.law.deltaT }
    intake := { s.intake with
      cEst := if old.camberLimit = new.camberLimit then s.intake.cEst else clampSym new.camberLimit s.intake.cEst }
    drives :=
      if old.uMax = new.uMax then s.drives
      else { s.drives with tilt := clampDuties new.uMax s.drives.tilt, steer := clampDuties new.uMax s.drives.steer } }

/-- The LEAN_LIMITED condition is delivered when it changes (R28). -/
def tellLimited (v : Bool) (s : State) : State := if v = s.law.flags.limit then s else deliverLeanLimited v s

/-- A law record written, with a change of LEAN_LIMITED told (R28). -/
def putLaw (l : Law) (s : State) : State := { tellLimited l.flags.limit s with law := l }

/-- One act of a command, and what it keeps. -/
inductive Move : State → State → Prop
  | pins (s : State) (p : Pins) : Move s { s with pins := p }
  | link (s : State) (l : Link) (quiet : Quiet s.link l) : Move s { s with link := l }
  | counters (s : State) (u : CounterUnit) (table : u.conditions = s.counters.conditions)
      (form : CountersSafe s.counters → CountersSafe u) : Move s { s with counters := u }
  | drive (s : State) (d : DriveId) (r : Drive)
      (duties : dutiesWithin (par s).uMax (getDrive s d) → dutiesWithin (par s).uMax r)
      (form : DriveSafe (getDrive s d) → DriveSafe r)
      (run : d = .tilt → r.mode = .run → (getDrive s d).mode = .run ∨ isRiding s.regime.regime = true) :
      Move s (putDrive d r s)
  | grids (s : State) (period loop : Time) :
      Move s { s with drives := { s.drives with periodStart := period, latestLoop := loop } }
  | control (s : State) (r : RegimeControl) (b : Brake) (form : RegimeForm s.regime → RegimeForm r)
      (promises : DrivesSafe s → DrivesSafe (putControl r b s)) : Move s (putControl r b s)
  | channel (s : State) (c : ChannelId) (r : Channel) (form : ChannelSafe (getChannel s c) → ChannelSafe r) :
      Move s (setChannel c r s)
  | wheel (s : State) (w : WheelId) (r : Wheel) (form : WheelSafe (getWheel s w) → WheelSafe r) :
      Move s (setWheel w r s)
  | run (s : State) (r : Option SlipRun) : Move s (setRun r s)
  | slip (s : State) (v : Bool) : Move s (changeSlip v s)
  | timeBase (s : State) (t : TimeBase) (form : TimeBaseSafe s.timeBase → TimeBaseSafe t) : Move s (setTimeBase t s)
  | intake (s : State) (i : Intake) (yaw : i.yawSlip = s.intake.yawSlip) (form : IntakeSafe s.intake → IntakeSafe i)
      (camber : s.intake.cEst.natAbs ≤ (par s).camberLimit → i.cEst.natAbs ≤ (par s).camberLimit) :
      Move s (changeIntake i s)
  | yawSlip (s : State) (v : Bool) : Move s (changeYawSlip v s)
  | law (s : State) (l : Law)
      (tilt : s.law.lambdaT.natAbs ≤ (par s).tiltLimit → l.lambdaT.natAbs ≤ (par s).tiltLimit)
      (steer : s.law.deltaT.natAbs ≤ (par s).steerLimit → l.deltaT.natAbs ≤ (par s).steerLimit)
      (ring : s.law.ring.length ≤ 6 → l.ring.length ≤ 6) : Move s (putLaw l s)
  | store (s : State) (t : Store) (params : t.working.params = par s) (form : StoreSafe s.store → StoreSafe t) :
      Move s (setStore t s)
  | retune (s : State) (c : Calibration) (form : CalibrationSafe s.store.working → CalibrationSafe c) :
      Move s (retuned c s)

/-- A run of moves. -/
inductive Moves : State → State → Prop
  | refl {s : State} : Moves s s
  | tail {s t u : State} : Moves s t → Move t u → Moves s u

theorem Move.moves {s t : State} (h : Move s t) : Moves s t := .tail .refl h

/-- Two runs, one after the other. -/
theorem Moves.trans {s t u : State} (first : Moves s t) (second : Moves t u) : Moves s u := by
  induction second with
  | refl => exact first
  | tail _ last ih => exact .tail ih last

/-- A predicate that every move keeps is kept by a run of moves. -/
theorem Moves.keeps {P : State → Prop} (kept : ∀ s t, Move s t → P s → P t) {s t : State} (h : Moves s t) (safe : P s) :
    P t := by
  induction h with
  | refl => exact safe
  | tail _ last ih => exact kept _ _ last ih

end Sys2Proof.Machine
end

section
/-! What every move keeps: each invariant of Safety.lean but the link's, and the quiet of the link. -/

namespace Sys2Proof.Machine

variable {s t : State}

/-! ### The drives and the condition table under a write that tells -/

@[simp] theorem putDrive_drives (d : DriveId) (r : Drive) (s : State) :
    (putDrive d r s).drives = (setDrive d r s).drives := by
  cases d <;> simp [putDrive, setDrive]

/-- The condition table with one drive's saturated sub-condition set. -/
def withSaturated (d : DriveId) (v : Bool) (c : Conditions) : Conditions :=
  match d with
  | .tilt => { c with satTilt := v }
  | .steer => { c with satSteer := v }

theorem deliverSaturated_eq (d : DriveId) (v : Bool) (s : State) :
    deliverSaturated d v s = deliverConditions (withSaturated d v s.counters.conditions) s := by
  cases d <;> rfl

/-- While the table holds what the producers hold, telling of a saturation leaves it with that saturation. -/
theorem tellSaturated_conditions (d : DriveId) (v : Bool) (h : ConditionsSafe s) :
    (tellSaturated d v s).counters.conditions = withSaturated d v s.counters.conditions := by
  unfold tellSaturated
  split
  · next same =>
    rw [h]
    cases d <;> simp only [getDrive] at same <;> simp [withSaturated, same]
  · rw [deliverSaturated_eq, deliverConditions_conditions]

theorem tellLimited_conditions (v : Bool) (h : ConditionsSafe s) :
    (tellLimited v s).counters.conditions = { s.counters.conditions with leanLimited := v } := by
  unfold tellLimited
  split
  · next same => rw [h, same]
  · rw [deliverLeanLimited, deliverConditions_conditions]

@[simp] theorem tellLimited_frame (v : Bool) (s : State) :
    (tellLimited v s).pending = s.pending ∧ (tellLimited v s).pins = s.pins ∧
    (tellLimited v s).timeBase = s.timeBase ∧ (tellLimited v s).intake = s.intake ∧
    (tellLimited v s).channels = s.channels ∧ (tellLimited v s).wheels = s.wheels ∧
    (tellLimited v s).law = s.law ∧ (tellLimited v s).regime = s.regime ∧
    (tellLimited v s).drives = s.drives ∧ (tellLimited v s).store = s.store := by
  unfold tellLimited
  split <;> simp

@[simp] theorem putLaw_frame (l : Law) (s : State) :
    (putLaw l s).pending = s.pending ∧ (putLaw l s).pins = s.pins ∧
    (putLaw l s).timeBase = s.timeBase ∧ (putLaw l s).intake = s.intake ∧
    (putLaw l s).channels = s.channels ∧ (putLaw l s).wheels = s.wheels ∧
    (putLaw l s).law = l ∧ (putLaw l s).regime = s.regime ∧
    (putLaw l s).drives = s.drives ∧ (putLaw l s).store = s.store := by
  simp [putLaw]

/-- A change of wheel slip writes the slip flag (R118). -/
@[simp] theorem changeSlip_wheels (v : Bool) (s : State) : (changeSlip v s).wheels = { s.wheels with slip := v } := by
  by_cases same : s.wheels.slip = v
  · rw [changeSlip_of_eq s v same, ← same]
  · simp [changeSlip_of_ne s v same]

theorem changeSlip_conditions (v : Bool) (h : ConditionsSafe s) :
    (changeSlip v s).counters.conditions = { s.counters.conditions with slipWheel := v } := by
  by_cases same : s.wheels.slip = v
  · rw [changeSlip_of_eq s v same, h, same]
  · rw [changeSlip_of_ne s v same, deliverSlipWheel, deliverConditions_conditions]

/-- A change of yaw slip writes the yaw slip flag (R143). -/
@[simp] theorem changeYawSlip_intake (v : Bool) (s : State) :
    (changeYawSlip v s).intake = { s.intake with yawSlip := v } := by
  unfold changeYawSlip
  split
  · next same => rw [← same]
  · simp

theorem changeYawSlip_conditions (v : Bool) (h : ConditionsSafe s) :
    (changeYawSlip v s).counters.conditions = { s.counters.conditions with slipYaw := v } := by
  unfold changeYawSlip
  split
  · next same => rw [h, same]
  · rw [deliverSlipYaw, deliverConditions_conditions]

@[simp] theorem changeIntake_intake (i : Intake) (s : State) : (changeIntake i s).intake = i := by
  unfold changeIntake
  dsimp only
  split <;> simp

theorem changeIntake_conditions (i : Intake) (h : ConditionsSafe s) :
    (changeIntake i s).counters.conditions =
      { s.counters.conditions with degradedUnaged := qualityOf i == .unaged, degradedStale := qualityOf i == .stale } := by
  unfold changeIntake
  dsimp only
  split
  · next same => rw [h, same]
  · rw [deliverDegraded, deliverConditions_conditions]

/-! ### The condition table (R172) -/

/-- Every move keeps the condition table equal to what the producers hold: a producer that changes tells. -/
theorem Move.keeps_conditions (move : Move s t) (h : ConditionsSafe s) : ConditionsSafe t := by
  have table := h
  unfold ConditionsSafe quality at table
  cases move with
  | pins | link | grids | control | store => exact h
  | channel c r | run r => simpa [ConditionsSafe, quality] using table
  | wheel w r => simpa [ConditionsSafe, quality] using table
  | timeBase t => simpa [ConditionsSafe, quality] using table
  | counters u same => exact same.trans h
  | drive d r =>
    have told := tellSaturated_conditions d r.saturated h
    rw [table] at told
    cases d <;> simp [ConditionsSafe, putDrive, quality, told, withSaturated, setDrive]
  | slip v => simp [ConditionsSafe, quality, changeSlip_conditions v h, table]
  | intake i yaw => simp [ConditionsSafe, quality, changeIntake_conditions i h, table, yaw]
  | yawSlip v => simp [ConditionsSafe, quality, changeYawSlip_conditions v h, table, qualityOf]
  | law l => simp [ConditionsSafe, quality, putLaw, tellLimited_conditions l.flags.limit h, table]
  | retune c =>
    simp only [ConditionsSafe, retuned, quality, table]
    split <;> rfl

/-! ### The store (R210 to R212, R215, R216) -/

theorem Move.keeps_store (move : Move s t) (h : StoreSafe s.store) : StoreSafe t.store := by
  cases move with
  | store t params form => exact form h
  | retune c form => exact { h with workingSafe := form h.workingSafe }
  | _ => simpa using h

end Sys2Proof.Machine
end

section
/-! Every move keeps the limits, the regime record, the drives and the records of the measuring blocks. -/

namespace Sys2Proof.Machine

variable {s t : State}

/-! ### Values within a limit -/

theorem natAbs_clampSym_le (x : Nat) (v : Int) : (clampSym x v).natAbs ≤ x := by
  unfold clampSym clampTo
  omega

/-- A value within a limit is not changed by it. -/
theorem clampSym_of_le {x : Nat} {v : Int} (within : v.natAbs ≤ x) : clampSym x v = v := by
  unfold clampSym clampTo
  omega

theorem dutiesWithin_clampDuties (u : Nat) (r : Drive) : dutiesWithin u (clampDuties u r) :=
  ⟨natAbs_clampSym_le _ _, natAbs_clampSym_le _ _⟩

/-! ### The limits in force (R23, R74, R140, R150) -/

/-- What is limited and its limits are all that the limits' rule reads. -/
theorem LimitsSafe.congr (h : LimitsSafe s) (law : t.law = s.law) (intake : t.intake.cEst = s.intake.cEst)
    (tilt : t.drives.tilt = s.drives.tilt) (steer : t.drives.steer = s.drives.steer) (params : par t = par s) :
    LimitsSafe t := by
  constructor
  · rw [law, params]; exact h.tilt
  · rw [law, params]; exact h.steer
  · rw [intake, params]; exact h.camber
  · rw [tilt, params]; exact h.tiltDuty
  · rw [steer, params]; exact h.steerDuty

/-- A value clamped to a new limit, or kept under the limit it is already within. -/
theorem within_retuned {old new : Nat} {v : Int} (within : v.natAbs ≤ old) :
    (if old = new then v else clampSym new v).natAbs ≤ new := by
  split
  · next same => exact same ▸ within
  · exact natAbs_clampSym_le new v

theorem retuned_drives_of_eq (c : Calibration) (same : (par s).uMax = c.params.uMax) :
    (retuned c s).drives = s.drives := if_pos same

theorem retuned_drives_of_ne (c : Calibration) (other : (par s).uMax ≠ c.params.uMax) :
    (retuned c s).drives =
      { s.drives with
        tilt := clampDuties c.params.uMax s.drives.tilt, steer := clampDuties c.params.uMax s.drives.steer } :=
  if_neg other

/-- Both drives' duties are within a new U_MAX (R150). -/
theorem retuned_duties (c : Calibration) (tilt : dutiesWithin (par s).uMax s.drives.tilt)
    (steer : dutiesWithin (par s).uMax s.drives.steer) :
    dutiesWithin c.params.uMax (retuned c s).drives.tilt ∧ dutiesWithin c.params.uMax (retuned c s).drives.steer := by
  by_cases same : (par s).uMax = c.params.uMax
  · rw [retuned_drives_of_eq c same, ← same]
    exact ⟨tilt, steer⟩
  · rw [retuned_drives_of_ne c same]
    exact ⟨dutiesWithin_clampDuties _ _, dutiesWithin_clampDuties _ _⟩

theorem Move.keeps_limits (move : Move s t) (h : LimitsSafe s) : LimitsSafe t := by
  cases move with
  | drive d r duties =>
    cases d
    · exact ⟨by simpa using h.tilt, by simpa using h.steer, by simpa using h.camber,
        by simpa [setDrive] using duties h.tiltDuty, by simpa [setDrive] using h.steerDuty⟩
    · exact ⟨by simpa using h.tilt, by simpa using h.steer, by simpa using h.camber,
        by simpa [setDrive] using h.tiltDuty, by simpa [setDrive] using duties h.steerDuty⟩
  | intake i yaw form camber =>
    exact ⟨by simpa [par] using h.tilt, by simpa [par] using h.steer, by simpa [par] using camber h.camber,
      by simpa [par] using h.tiltDuty, by simpa [par] using h.steerDuty⟩
  | law l tilt steer =>
    exact ⟨by simpa [par] using tilt h.tilt, by simpa [par] using steer h.steer, by simpa [par] using h.camber,
      by simpa [par] using h.tiltDuty, by simpa [par] using h.steerDuty⟩
  | store t params => exact h.congr rfl rfl rfl rfl params
  | retune c =>
    obtain ⟨tilt, steer⟩ := retuned_duties c h.tiltDuty h.steerDuty
    exact ⟨within_retuned h.tilt, within_retuned h.steer, within_retuned h.camber, tilt, steer⟩
  | _ => exact h.congr (by simp) (by simp) (by simp) (by simp) (by simp [par])

/-! ### The regime record and the bar ring (R25, R31, R62, R63) -/

theorem regimeSafe_iff (s : State) : RegimeSafe s ↔ RegimeForm s.regime ∧ s.law.ring.length ≤ 6 := by
  constructor
  · rintro ⟨a, b, c, d, e, f, g, h, ring⟩
    exact ⟨⟨a, b, c, d, e, f, g, h⟩, ring⟩
  · rintro ⟨⟨a, b, c, d, e, f, g, h⟩, ring⟩
    exact ⟨a, b, c, d, e, f, g, h, ring⟩

theorem Move.keeps_regime (move : Move s t) (h : RegimeSafe s) : RegimeSafe t := by
  obtain ⟨record, bound⟩ := (regimeSafe_iff s).mp h
  rw [regimeSafe_iff]
  cases move with
  | control r b form => exact ⟨form record, bound⟩
  | law l tilt steer ring => exact ⟨by simpa using record, by simpa using ring bound⟩
  | retune => exact ⟨record, bound⟩
  | _ => exact ⟨by simpa using record, by simpa using bound⟩

/-! ### Drives and brake (R30, R145, R148, R160, R161) -/

theorem DrivesSafe.congr (h : DrivesSafe s) (tilt : t.drives.tilt = s.drives.tilt) (steer : t.drives.steer = s.drives.steer)
    (brake : t.drives.brake = s.drives.brake) (regime : t.regime.regime = s.regime.regime) : DrivesSafe t := by
  constructor
  · rw [tilt]; exact h.tilt
  · rw [steer]; exact h.steer
  · rw [brake]; exact h.output
  · rw [brake]; exact h.timer
  · rw [brake, regime]; exact h.deEnergised
  · rw [tilt, regime]; exact h.runRiding

/-- A bridge that is off has no duty to clamp. -/
theorem DriveSafe.clamped {r : Drive} (u : Nat) (h : DriveSafe r) : DriveSafe (clampDuties u r) where
  offIdle off := by
    obtain ⟨shadow, active, dir⟩ := h.offIdle off
    simp only [clampDuties, shadow, active, dir]
    exact ⟨clampSym_of_le (by simp), clampSym_of_le (by simp), trivial⟩
  holdHeld := h.holdHeld
  loopOnly := h.loopOnly
  creepOnly := h.creepOnly
  cutBound := h.cutBound

theorem Move.keeps_drives (move : Move s t) (h : DrivesSafe s) : DrivesSafe t := by
  cases move with
  | drive d r duties form run =>
    have ran : d = .tilt → r.mode = .run → isRiding s.regime.regime = true := by
      intro tilt mode
      obtain old | riding := run tilt mode
      · exact h.runRiding (by rw [tilt] at old; exact old)
      · exact riding
    cases d
    · exact ⟨by simpa [setDrive] using form h.tilt, by simpa [setDrive] using h.steer, by simpa using h.output,
        by simpa using h.timer, by simpa using h.deEnergised, by simpa [setDrive] using ran rfl⟩
    · exact ⟨by simpa [setDrive] using h.tilt, by simpa [setDrive] using form h.steer, by simpa using h.output,
        by simpa using h.timer, by simpa using h.deEnergised, by simpa [setDrive] using h.runRiding⟩
  | control r b form promises => exact promises h
  | retune c =>
    by_cases same : (par s).uMax = c.params.uMax
    · have drives := retuned_drives_of_eq c same
      exact h.congr (by rw [drives]) (by rw [drives]) (by rw [drives]) rfl
    · have drives := retuned_drives_of_ne c same
      constructor
      · rw [drives]; exact h.tilt.clamped _
      · rw [drives]; exact h.steer.clamped _
      · rw [drives]; exact h.output
      · rw [drives]; exact h.timer
      · rw [drives]; exact h.deEnergised
      · rw [drives]; exact h.runRiding
  | _ => exact h.congr (by simp) (by simp) (by simp) (by simp)

end Sys2Proof.Machine
end

section
/-! Every move keeps the records of the channels, the wheels, the time base, the intake and the counters, and is quiet on the
link. -/

namespace Sys2Proof.Machine

variable {s t : State}

/-! ### Counters (R170, R173 to R180) -/

theorem forall_mem_counters {P : Counter → Prop} (v : Vector Counter 8) :
    (∀ c ∈ v.toList, P c) ↔ ∀ i : Fin 8, P v[i] := by
  constructor
  · intro all i
    exact all _ (Vector.mem_toList_iff.mpr (Vector.getElem_mem i.isLt))
  · intro all c mem
    obtain ⟨i, lt, rfl⟩ := Vector.getElem_of_mem (Vector.mem_toList_iff.mp mem)
    exact all ⟨i, lt⟩

theorem countersSafe_iff (u : CounterUnit) : CountersSafe u ↔ ∀ i : Fin 8, CounterSafe u.conditions u.counters[i] :=
  forall_mem_counters u.counters

/-- What the record of a counter keeps beside its mark and its remainder. -/
theorem CounterSafe.remark {old new : Conditions} {c : Counter} (h : CounterSafe old c) (r : Nat) (m : Option Time)
    (held : m.isSome = true ↔ (c.config.mode = .duration ∧ selectedCondition c.config new = true)) :
    CounterSafe new { c with remainder := r, mark := m } :=
  ⟨h.valueBound, h.thresholdBound, h.reachedHeld, h.modeFits, h.none, held⟩

/-- An increase of a counter that counts an event keeps its form (R179, R180). -/
theorem CounterSafe.increased {t : Conditions} {c : Counter} (h : CounterSafe t c) (n : Nat)
    (counts : c.config.event ≠ Option.none) : CounterSafe t (increase n c).1 where
  valueBound := Nat.min_le_left _ _
  thresholdBound := h.thresholdBound
  reachedHeld reached := by
    have bound := h.valueBound
    simp only [increase, reachesThreshold, Bool.or_eq_true, decide_eq_true_eq] at reached ⊢
    obtain before | now := reached
    · obtain ⟨nonzero, held⟩ := h.reachedHeld before
      exact ⟨nonzero, by omega⟩
    · exact ⟨now.1, now.2.2⟩
  modeFits := h.modeFits
  none unused := absurd unused counts
  markHeld := h.markHeld

/-- A counter of no event selects no condition (R172). -/
theorem selectedCondition_of_none {c : CounterConfig} (unused : c.event = Option.none) (t : Conditions) :
    selectedCondition c t = false := by
  simp [selectedCondition, unused]

theorem CounterSafe.takeOccurrence {t : Conditions} {c : Counter} (h : CounterSafe t c) (e : CounterEvent) (kinds : Byte) :
    CounterSafe t (takeOccurrence e kinds c).1 := by
  unfold Machine.takeOccurrence
  split
  · next counts => exact h.increased 1 (by rw [counts.1]; exact Option.some_ne_none e)
  · exact h

theorem CounterSafe.takeAge {t : Conditions} {c : Counter} (h : CounterSafe t c) (age : Nat) :
    CounterSafe t (takeAge age c).1 := by
  unfold Machine.takeAge
  split
  · next counts => exact h.increased age (by rw [counts.1]; exact Option.some_ne_none _)
  · exact h

/-- The millisecond timer runs only in a DURATION counter whose condition stands (R176). -/
theorem CounterSafe.millisecondTick {t : Conditions} {c : Counter} (h : CounterSafe t c) (now : Time)
    (runs : c.mark.isSome = true) : CounterSafe t (millisecondTick now c).1 := by
  obtain ⟨duration, stands⟩ := h.markHeld.mp runs
  refine (h.remark 0 (some now) ⟨fun _ => ⟨duration, stands⟩, fun _ => rfl⟩).increased 1 fun unused => ?_
  rw [selectedCondition_of_none unused] at stands
  contradiction

/-- A counter takes a change of its selected condition (R172, R176 to R178). -/
theorem CounterSafe.takeConditions {old new : Conditions} {c : Counter} (h : CounterSafe old c) (now : Time) :
    CounterSafe new (takeConditions old new now c).1 := by
  have counts (changes : selectedCondition c.config old ≠ selectedCondition c.config new) : c.config.event ≠ Option.none := by
    intro unused
    rw [selectedCondition_of_none unused, selectedCondition_of_none unused] at changes
    exact changes rfl
  have held (m : Option Time) (holds : m.isSome = true ↔
      (c.config.mode = .duration ∧ selectedCondition c.config new = true)) (r : Nat) :=
    h.remark r m holds
  unfold Machine.takeConditions
  split
  · next same => exact held c.mark (by rw [← same]; exact h.markHeld) c.remainder
  · next changes =>
    split
    · next rises =>
      have fell : c.mark = Option.none := by
        cases mark : c.mark with
        | none => rfl
        | some m =>
          obtain ⟨-, stood⟩ := h.markHeld.mp (by rw [mark]; rfl)
          exact absurd (stood.trans rises.symm) changes
      unfold conditionRises
      split
      · next duration => exact held (some now) (by simp [duration, rises]) c.remainder
      · next edge => exact (held c.mark (by simp [edge, fell]) c.remainder).increased 1 (counts changes)
      · next count => exact held c.mark (by simp [count, fell]) c.remainder
      · next accumulate => exact held c.mark (by simp [accumulate, fell]) c.remainder
    · next falls =>
      unfold conditionFalls
      split
      · dsimp only
        split
        · exact (held Option.none (by simp [falls]) _).increased 1 (counts changes)
        · exact held Option.none (by simp [falls]) _
      · next other =>
        refine held c.mark ⟨fun runs => ?_, fun stands => absurd stands.2 falls⟩ c.remainder
        obtain ⟨duration, -⟩ := h.markHeld.mp runs
        obtain ⟨m, mark⟩ := Option.isSome_iff_exists.mp runs
        exact absurd mark (other m duration)

/-- Every counter that takes its part keeps its form. -/
theorem CountersSafe.offerAll {take : Counter → Counter × Bool} (h : CountersSafe s.counters)
    (takes : ∀ c, CounterSafe s.counters.conditions c → CounterSafe s.counters.conditions (take c).1) :
    CountersSafe (offerAll take s).counters := by
  rw [countersSafe_iff] at h ⊢
  intro i
  rw [offerAll_counters, offerAll_conditions]
  exact takes _ (h i)

theorem CountersSafe.deliver (h : CountersSafe s.counters) (e : CounterEvent) (kinds : Byte) :
    CountersSafe (deliver e kinds s).counters :=
  CountersSafe.offerAll h fun _ safe => safe.takeOccurrence e kinds

theorem CountersSafe.deliverAge (h : CountersSafe s.counters) (age : Nat) : CountersSafe (deliverAge age s).counters :=
  CountersSafe.offerAll h fun _ safe => safe.takeAge age

theorem CountersSafe.deliverConditions (h : CountersSafe s.counters) (new : Conditions) :
    CountersSafe (deliverConditions new s).counters := by
  rw [countersSafe_iff] at h ⊢
  intro i
  rw [deliverConditions_counters, deliverConditions_conditions]
  exact (h i).takeConditions _

theorem CountersSafe.tellSaturated (h : CountersSafe s.counters) (d : DriveId) (v : Bool) :
    CountersSafe (tellSaturated d v s).counters := by
  unfold Machine.tellSaturated
  split
  · exact h
  · rw [deliverSaturated_eq]
    exact h.deliverConditions _

theorem CountersSafe.tellLimited (h : CountersSafe s.counters) (v : Bool) : CountersSafe (tellLimited v s).counters := by
  unfold Machine.tellLimited
  split
  · exact h
  · exact h.deliverConditions _

theorem CountersSafe.changeSlip (h : CountersSafe s.counters) (v : Bool) : CountersSafe (changeSlip v s).counters := by
  unfold Machine.changeSlip
  split
  · exact h
  · exact CountersSafe.deliverConditions (s := { s with wheels := { s.wheels with slip := v } }) h _

theorem CountersSafe.changeYawSlip (h : CountersSafe s.counters) (v : Bool) :
    CountersSafe (changeYawSlip v s).counters := by
  unfold Machine.changeYawSlip
  split
  · exact h
  · exact CountersSafe.deliverConditions (s := { s with intake := { s.intake with yawSlip := v } }) h _

theorem CountersSafe.changeIntake (h : CountersSafe s.counters) (i : Intake) : CountersSafe (changeIntake i s).counters := by
  unfold Machine.changeIntake
  dsimp only
  split
  · exact h
  · exact CountersSafe.deliverConditions (s := { s with intake := i }) h _

/-! ### The records together (R80, R102, R122, R135, R142, R170) -/

/-- The records are all that their rule reads. -/
theorem RecordsSafe.congr (h : RecordsSafe s) (channels : t.channels = s.channels) (fl : t.wheels.fl = s.wheels.fl)
    (fr : t.wheels.fr = s.wheels.fr) (rr : t.wheels.rr = s.wheels.rr) (timeBase : t.timeBase = s.timeBase)
    (intake : IntakeSafe t.intake) (counters : CountersSafe t.counters) : RecordsSafe t := by
  constructor
  · rw [channels]; exact h.tilt
  · rw [channels]; exact h.steer
  · rw [channels]; exact h.bar
  · rw [fl]; exact h.fl
  · rw [fr]; exact h.fr
  · rw [rr]; exact h.rr
  · rw [timeBase]; exact h.timeBase
  · exact intake
  · exact counters

theorem Move.keeps_records (move : Move s t) (h : RecordsSafe s) : RecordsSafe t := by
  have counting : CountersSafe s.counters := h.counters
  cases move with
  | pins | link | grids | control | run | store => exact ⟨h.1, h.2, h.3, h.4, h.5, h.6, h.7, h.8, h.9⟩
  | counters u table form => exact h.congr rfl rfl rfl rfl rfl h.intake (form counting)
  | drive d r =>
    refine h.congr (by simp) (by simp) (by simp) (by simp) (by simp) (by simpa using h.intake) ?_
    simpa [putDrive] using counting.tellSaturated d r.saturated
  | channel c r form =>
    cases c
    · exact ⟨form h.tilt, h.steer, h.bar, h.fl, h.fr, h.rr, h.timeBase, h.intake, h.counters⟩
    · exact ⟨h.tilt, form h.steer, h.bar, h.fl, h.fr, h.rr, h.timeBase, h.intake, h.counters⟩
    · exact ⟨h.tilt, h.steer, form h.bar, h.fl, h.fr, h.rr, h.timeBase, h.intake, h.counters⟩
  | wheel w r form =>
    cases w
    · exact ⟨h.tilt, h.steer, h.bar, form h.fl, h.fr, h.rr, h.timeBase, h.intake, h.counters⟩
    · exact ⟨h.tilt, h.steer, h.bar, h.fl, form h.fr, h.rr, h.timeBase, h.intake, h.counters⟩
    · exact ⟨h.tilt, h.steer, h.bar, h.fl, h.fr, form h.rr, h.timeBase, h.intake, h.counters⟩
  | slip v =>
    exact h.congr (by simp) (by simp) (by simp) (by simp) (by simp) (by simpa using h.intake) (counting.changeSlip v)
  | timeBase t form => exact ⟨h.tilt, h.steer, h.bar, h.fl, h.fr, h.rr, form h.timeBase, h.intake, h.counters⟩
  | intake i yaw form =>
    exact h.congr (by simp) (by simp) (by simp) (by simp) (by simp) (by simpa using form h.intake)
      (counting.changeIntake i)
  | yawSlip v =>
    exact h.congr (by simp) (by simp) (by simp) (by simp) (by simp)
      (by simpa using ⟨h.intake.mismatchBound, h.intake.matchBound, h.intake.oneRun⟩) (counting.changeYawSlip v)
  | law l =>
    exact h.congr (by simp) (by simp) (by simp) (by simp) (by simp) (by simpa using h.intake)
      (counting.tellLimited l.flags.limit)
  | retune c =>
    exact h.congr rfl rfl rfl rfl rfl ⟨h.intake.mismatchBound, h.intake.matchBound, h.intake.oneRun⟩ counting

/-! ### The link (R197) -/

theorem quiet_postThresholdNotice (n : ThresholdNotice) (s : State) : Quiet s.link (postThresholdNotice n s).link :=
  quiet_post rfl rfl rfl rfl rfl rfl

theorem quiet_offerAll (take : Counter → Counter × Bool) (s : State) : Quiet s.link (offerAll take s).link := by
  unfold offerAll
  generalize counterIndices = is
  induction is generalizing s with
  | nil => exact Quiet.refl _
  | cons i is ih =>
    refine Quiet.trans ?_ (ih (offerTo take s i))
    unfold offerTo
    dsimp only
    split
    · exact quiet_postThresholdNotice _ _
    · exact Quiet.refl _

theorem quiet_deliverConditions (new : Conditions) (s : State) : Quiet s.link (deliverConditions new s).link :=
  quiet_offerAll _ { s with counters := { s.counters with conditions := new } }

theorem quiet_tellSaturated (d : DriveId) (v : Bool) (s : State) : Quiet s.link (tellSaturated d v s).link := by
  unfold tellSaturated
  split
  · exact Quiet.refl _
  · rw [deliverSaturated_eq]
    exact quiet_deliverConditions _ _

/-- Every move is quiet on the link. -/
theorem Move.quiet (move : Move s t) : Quiet s.link t.link := by
  cases move with
  | link l quiet => exact quiet
  | drive d r => simpa [putDrive] using quiet_tellSaturated d r.saturated s
  | slip v =>
    unfold changeSlip
    split
    · exact Quiet.refl _
    · exact quiet_deliverConditions _ { s with wheels := { s.wheels with slip := v } }
  | intake i =>
    unfold changeIntake
    dsimp only
    split
    · exact Quiet.refl _
    · exact quiet_deliverConditions _ { s with intake := i }
  | yawSlip v =>
    unfold changeYawSlip
    split
    · exact Quiet.refl _
    · exact quiet_deliverConditions _ { s with intake := { s.intake with yawSlip := v } }
  | law l =>
    show Quiet s.link (tellLimited l.flags.limit s).link
    unfold tellLimited
    split
    · exact Quiet.refl _
    · exact quiet_deliverConditions _ s
  | pins | counters | grids | control | run | timeBase | store | retune => exact Quiet.refl _
  | channel c r => simpa using Quiet.refl s.link
  | wheel w r => simpa using Quiet.refl s.link

theorem Moves.quiet (h : Moves s t) : Quiet s.link t.link :=
  h.keeps (P := fun u => Quiet s.link u.link) (fun _ _ move kept => kept.trans move.quiet) (Quiet.refl _)

end Sys2Proof.Machine
end

section
/-! The operations that only tell: notices, events, and the commands to drives and brake, each a run of moves. -/

namespace Sys2Proof.Machine

variable (s : State)

/-! ### Notices (R197) -/

theorem postRegimeNotice_moves (n : RegimeNotice) : Moves s (postRegimeNotice n s) :=
  (Move.link s (postRegimeNotice n s).link (quiet_post rfl rfl rfl rfl rfl rfl)).moves

theorem postFaultNotice_moves (n : FaultNotice) : Moves s (postFaultNotice n s) :=
  (Move.link s (postFaultNotice n s).link (quiet_post rfl rfl rfl rfl rfl rfl)).moves

theorem postStoreNotice_moves (n : StoreNotice) : Moves s (postStoreNotice n s) :=
  (Move.link s (postStoreNotice n s).link (quiet_post rfl rfl rfl rfl rfl rfl)).moves

theorem postThresholdNotice_moves (n : ThresholdNotice) : Moves s (postThresholdNotice n s) :=
  (Move.link s (postThresholdNotice n s).link (quiet_post rfl rfl rfl rfl rfl rfl)).moves

theorem postTimebaseNotice_moves (n : TimebaseNotice) : Moves s (postTimebaseNotice n s) :=
  (Move.link s (postTimebaseNotice n s).link (quiet_post rfl rfl rfl rfl rfl rfl)).moves

/-! ### Events (R173 to R175) -/

/-- Counters and link alone change, the counters in form and the link quietly. -/
theorem moves_of_beside {t : State} (frame : t = beside s t) (table : t.counters.conditions = s.counters.conditions)
    (form : CountersSafe s.counters → CountersSafe t.counters) (quiet : Quiet s.link t.link) : Moves s t := by
  have counted : Moves s { s with counters := t.counters } := (Move.counters s t.counters table form).moves
  rw [frame]
  exact counted.tail (Move.link { s with counters := t.counters } t.link quiet)

theorem offerAll_moves (take : Counter → Counter × Bool)
    (takes : ∀ c, CounterSafe s.counters.conditions c → CounterSafe s.counters.conditions (take c).1) :
    Moves s (offerAll take s) :=
  moves_of_beside s (offerAll_beside s take s rfl) (offerAll_conditions take s) (fun safe => safe.offerAll takes)
    (quiet_offerAll take s)

theorem deliver_moves (e : CounterEvent) (kinds : Byte) : Moves s (deliver e kinds s) :=
  offerAll_moves s _ fun _ safe => safe.takeOccurrence e kinds

theorem deliverAge_moves (age : Nat) : Moves s (deliverAge age s) := offerAll_moves s _ fun _ safe => safe.takeAge age

/-- One counter written in form (R170). -/
theorem setCounter_moves (i : Fin 8) (c : Counter)
    (form : CounterSafe s.counters.conditions s.counters.counters[i] → CounterSafe s.counters.conditions c) :
    Moves s (setCounter i c s) := by
  refine (Move.counters s { s.counters with counters := s.counters.counters.set i c } rfl fun safe => ?_).moves
  rw [countersSafe_iff] at safe ⊢
  intro j
  by_cases same : i = j
  · subst same
    simpa using form (safe i)
  · simpa [Fin.val_ne_of_ne same] using safe j

/-- The millisecond timer of a counter counts one (R176). -/
theorem millisecondExpiry_moves (i : Fin 8) (runs : s.counters.counters[i].mark.isSome = true) :
    Moves s (offerTo (millisecondTick (now s)) s i) := by
  have counted := setCounter_moves s i (millisecondTick (now s) s.counters.counters[i]).1
    fun safe => safe.millisecondTick (now s) runs
  unfold offerTo
  dsimp only
  split
  · exact counted.trans (postThresholdNotice_moves _ _)
  · exact counted

/-! ### Commands to a drive (R145 to R148, R156) -/

/-- A drive that leaves its mode holds nothing of it (R146). -/
structure Bare (r : Drive) : Prop where
  holdTarget : r.holdTarget = none
  ePrev : r.ePrev = none
  satStart : r.satStart = none
  saturated : r.saturated = false
  creepTimer : r.creepTimer = none
  cutBound : r.cutRun < 400

theorem DriveSafe.no_hold {r : Drive} (h : DriveSafe r) (other : r.mode ≠ .hold) : r.holdTarget = none :=
  Option.not_isSome_iff_eq_none.mp fun held => other (h.holdHeld.mp held)

theorem DriveSafe.no_creep {r : Drive} (h : DriveSafe r) (other : r.mode ≠ .creep) : r.creepTimer = none :=
  Option.not_isSome_iff_eq_none.mp fun held => other (h.creepOnly held)

theorem DriveSafe.no_loop {r : Drive} (h : DriveSafe r) (other : ¬ (r.mode = .hold ∨ r.mode = .run)) :
    r.ePrev = none ∧ r.satStart = none ∧ r.saturated = false := by
  have absent := mt h.loopOnly other
  rw [not_or, not_or] at absent
  obtain ⟨ePrev, satStart, saturated⟩ := absent
  exact ⟨Option.not_isSome_iff_eq_none.mp ePrev, Option.not_isSome_iff_eq_none.mp satStart, by simpa using saturated⟩

theorem DriveSafe.left {r : Drive} (h : DriveSafe r) : Bare (leftRecord r) := by
  unfold leftRecord
  split
  · next creep =>
    obtain ⟨ePrev, satStart, saturated⟩ := h.no_loop (by simp [creep])
    exact ⟨h.no_hold (by simp [creep]), ePrev, satStart, saturated, rfl, h.cutBound⟩
  · next hold => exact ⟨rfl, rfl, rfl, rfl, h.no_creep (by simp [hold]), h.cutBound⟩
  · next run => exact ⟨h.no_hold (by simp [run]), rfl, rfl, rfl, h.no_creep (by simp [run]), h.cutBound⟩
  · next off =>
    obtain ⟨ePrev, satStart, saturated⟩ := h.no_loop (by simp [off])
    exact ⟨h.no_hold (by simp [off]), ePrev, satStart, saturated, h.no_creep (by simp [off]), h.cutBound⟩
  · next fault =>
    obtain ⟨ePrev, satStart, saturated⟩ := h.no_loop (by simp [fault])
    exact ⟨h.no_hold (by simp [fault]), ePrev, satStart, saturated, h.no_creep (by simp [fault]), h.cutBound⟩

theorem DriveSafe.off {r : Drive} (h : DriveSafe r) : DriveSafe (offRecord r) := by
  unfold offRecord
  split
  · exact h
  · obtain ⟨holdTarget, ePrev, satStart, saturated, creepTimer, -⟩ := h.left
    constructor <;> simp [bridgeOff, holdTarget, ePrev, satStart, saturated, creepTimer]

/-- A drive that takes up a loop mode from a bare record, or goes on in HOLD. -/
theorem Bare.loop {r : Drive} (h : Bare r) (m : DriveMode) (loops : m = .hold ∨ m = .run) (x : Option Int)
    (held : x.isSome = true ↔ m = .hold) (e : Option Int) :
    DriveSafe { r with mode := m, holdTarget := x, ePrev := e, shadow := 0, satStart := none } where
  offIdle off := by obtain rfl | rfl := loops <;> simp at off
  holdHeld := held
  loopOnly _ := loops
  creepOnly runs := by rw [h.creepTimer] at runs; contradiction
  cutBound := h.cutBound

theorem DriveSafe.commanded (d : DriveId) (cmd : DriveCommand) (h : DriveSafe (getDrive s d)) :
    DriveSafe (commandedRecord d cmd s) := by
  obtain ⟨holdTarget, ePrev, satStart, saturated, creepTimer, cutBound⟩ := h.left
  cases cmd with
  | off => exact h.off
  | creep =>
    unfold commandedRecord
    dsimp only
    split
    · exact h
    · constructor <;> simp [holdTarget, ePrev, satStart, saturated, cutBound]
  | hold x =>
    unfold commandedRecord
    dsimp only
    split
    · next hold =>
      refine ⟨by simp, by simp, by simp, fun runs => ?_, h.cutBound⟩
      rw [h.no_creep (by simp [hold])] at runs
      contradiction
    · exact h.left.loop .hold (.inl rfl) (some x) (by simp) _
  | run =>
    unfold commandedRecord
    dsimp only
    split
    · exact h
    · exact h.left.loop .run (.inr rfl) none (by simp) _

theorem dutiesWithin_zero (u : Nat) {r : Drive} (shadow : r.shadow = 0) (active : r.active.natAbs ≤ u) : dutiesWithin u r :=
  ⟨by rw [shadow]; exact Nat.zero_le u, active⟩

@[simp] theorem leftRecord_duties (r : Drive) :
    (leftRecord r).shadow = r.shadow ∧ (leftRecord r).active = r.active := by
  unfold leftRecord
  cases r.mode <;> exact ⟨rfl, rfl⟩

/-- A magnitude within a bound stays within it with either sign. -/
theorem natAbs_signed_le {u : Nat} {m : Int} (lower : 0 ≤ m) (upper : m ≤ u) (b : Bool) :
    (if b then -m else m).natAbs ≤ u := by
  split <;> omega

/-- The creep duty is within U_MAX (R156). -/
theorem natAbs_creepDuty_le (d : DriveId) : (creepDuty s d).natAbs ≤ (par s).uMax :=
  natAbs_signed_le (Int.le_min.mpr ⟨Int.natCast_nonneg _, Int.natCast_nonneg _⟩) (Int.min_le_right _ _) _

theorem dutiesWithin_commanded (d : DriveId) (cmd : DriveCommand) (h : dutiesWithin (par s).uMax (getDrive s d)) :
    dutiesWithin (par s).uMax (commandedRecord d cmd s) := by
  obtain ⟨shadow, active⟩ := h
  cases cmd with
  | off =>
    unfold commandedRecord offRecord
    dsimp only
    split
    · exact ⟨shadow, active⟩
    · exact ⟨Nat.zero_le _, Nat.zero_le _⟩
  | creep =>
    unfold commandedRecord
    dsimp only
    split
    · exact ⟨shadow, active⟩
    · exact ⟨natAbs_creepDuty_le s d, by simpa using active⟩
  | hold x => exact dutiesWithin_zero _ rfl (by simp only [commandedRecord]; split <;> simpa using active)
  | run =>
    unfold commandedRecord
    dsimp only
    split
    · exact ⟨shadow, active⟩
    · exact dutiesWithin_zero _ rfl (by simpa using active)

@[simp] theorem leftRecord_mode_eq (r : Drive) : (leftRecord r).mode = r.mode := leftRecord_mode r

/-- A commanded drive is in RUN only after a RUN command. -/
theorem commandedRecord_run {d : DriveId} {cmd : DriveCommand} (run : (commandedRecord d cmd s).mode = .run) :
    cmd = .run ∨ (getDrive s d).mode = .run := by
  cases cmd with
  | run => exact .inl rfl
  | hold x => simp [commandedRecord] at run
  | off =>
    right
    revert run
    unfold commandedRecord offRecord
    dsimp only
    split
    · exact id
    · intro run
      simp [bridgeOff] at run
  | creep =>
    right
    revert run
    unfold commandedRecord
    dsimp only
    split
    · exact id
    · intro run
      simp at run

/-- A mode command is a move, RUN of the tilt drive while riding (R30, R146). -/
theorem commandDrive_moves (d : DriveId) (cmd : DriveCommand)
    (riding : d = .tilt → cmd = .run → isRiding s.regime.regime = true) : Moves s (commandDrive d cmd s) := by
  by_cases fault : (getDrive s d).mode = .fault
  · rw [commandDrive_of_fault s d cmd fault]
    exact .refl
  · rw [commandDrive_eq s d cmd fault]
    refine (Move.drive s d _ (dutiesWithin_commanded s d cmd) (DriveSafe.commanded s d cmd) fun tilt run => ?_).moves
    obtain command | before := commandedRecord_run s run
    · exact .inr (riding tilt command)
    · exact .inl before

theorem commandOff_moves (d : DriveId) : Moves s (commandDrive d .off s) :=
  commandDrive_moves s d .off fun _ run => by contradiction

theorem commandHold_moves (d : DriveId) (x : Int) : Moves s (commandDrive d (.hold x) s) :=
  commandDrive_moves s d (.hold x) fun _ run => by contradiction

theorem commandCreep_moves (d : DriveId) : Moves s (commandDrive d .creep s) :=
  commandDrive_moves s d .creep fun _ run => by contradiction

theorem commandSteer_moves (cmd : DriveCommand) : Moves s (commandDrive .steer cmd s) :=
  commandDrive_moves s .steer cmd fun tilt => by contradiction

theorem bothOff_moves : Moves s (bothOff s) := (commandOff_moves s .tilt).trans (commandOff_moves _ .steer)

/-- After any command but RUN the tilt drive is not in RUN. -/
theorem commandTilt_mode_ne_run {cmd : DriveCommand} (other : cmd ≠ .run) :
    (commandDrive .tilt cmd s).drives.tilt.mode ≠ .run := by
  have mode := commandDrive_mode .tilt cmd s
  simp only [getDrive] at mode
  rw [mode]
  by_cases fault : s.drives.tilt.mode = .fault
  · simp [fault]
  · cases cmd <;> simp [fault, commandedMode] at other ⊢

/-- A command to the steer drive leaves the tilt drive as it is. -/
theorem commandSteer_tilt (cmd : DriveCommand) : (commandDrive .steer cmd s).drives.tilt = s.drives.tilt :=
  commandDrive_other .steer .tilt cmd s (by simp)

end Sys2Proof.Machine
end

section
/-! The brake commands and the regime controller's own acts: each change of regime is one write of the regime record (with the
brake, where both change together), so that the promises of R30 and R31 hold between any two moves. -/

namespace Sys2Proof.Machine

variable (s : State)

/-! ### The regime record -/

/-- The regimes in which the brake output is low (R161). -/
def deEnergised (r : Regime) : Prop := r = .init ∨ r = .parked ∨ r = .safe

/-- A write of the regime record keeps the promises about drives and brake. -/
theorem putRegime_move (r : RegimeControl) (form : RegimeForm s.regime → RegimeForm r)
    (low : DrivesSafe s → deEnergised r.regime → s.drives.brake.output = false)
    (riding : DrivesSafe s → s.drives.tilt.mode = .run → isRiding r.regime = true) : Moves s (putRegime r s) :=
  (Move.control s r s.drives.brake form fun safe =>
    ⟨safe.tilt, safe.steer, safe.output, safe.timer, low safe, riding safe⟩).moves

/-- A write of the regime record that leaves the regime. -/
theorem putRegime_same_moves (r : RegimeControl) (same : r.regime = s.regime.regime)
    (form : RegimeForm s.regime → RegimeForm r) : Moves s (putRegime r s) :=
  putRegime_move s r form (fun safe low => safe.deEnergised (same ▸ low)) fun safe run => same ▸ safe.runRiding run

/-- A write of the regime record that ends in a riding regime. -/
theorem putRegime_riding_moves (r : RegimeControl) (riding : isRiding r.regime = true)
    (form : RegimeForm s.regime → RegimeForm r) : Moves s (putRegime r s) := by
  refine putRegime_move s r form (fun _ low => ?_) fun _ _ => riding
  obtain init | parked | safe := low
  · rw [init] at riding; contradiction
  · rw [parked] at riding; contradiction
  · rw [safe] at riding; contradiction

/-- A regime change is one write of the regime record with its notice (R36). -/
theorem changeRegime_eq_putRegime (r : Regime) (cause : Option AbortCause) :
    changeRegime r cause s =
      postRegimeNotice ⟨r, s.regime.regime, cause, alphaAt r s.regime.blend (now s), nowMs s⟩
        (putRegime { s.regime with regime := r } s) := rfl

theorem putRegime_putRegime (r r' : RegimeControl) : putRegime r (putRegime r' s) = putRegime r s := rfl

theorem changeRegime_putRegime_moves (r : Regime) (cause : Option AbortCause) (c : RegimeControl)
    (moves : Moves s (putRegime { c with regime := r } s)) : Moves s (changeRegime r cause (putRegime c s)) := by
  rw [changeRegime_eq_putRegime]
  exact moves.trans (postRegimeNotice_moves _ _)

/-! ### The brake (R161 to R165) -/

/-- A brake record keeps its presence rules (R161). -/
structure BrakeSafe (b : Brake) : Prop where
  output : b.output = true ↔ (b.state = .releasing ∨ b.state = .released)
  timer : b.timer.isSome = true ↔ (b.state = .releasing ∨ b.state = .engaging)

theorem DrivesSafe.brake {s : State} (h : DrivesSafe s) : BrakeSafe s.drives.brake := ⟨h.output, h.timer⟩

/-- A brake that neither releases nor is released has its output low (R161). -/
theorem BrakeSafe.low {b : Brake} (h : BrakeSafe b) (releasing : b.state ≠ .releasing) (released : b.state ≠ .released) :
    b.output = false := by
  rw [← Bool.not_eq_true, h.output]
  exact not_or.mpr ⟨releasing, released⟩

/-- Regime and brake written together keep the promises. -/
theorem putControl_move (r : RegimeControl) (b : Brake) (form : RegimeForm s.regime → RegimeForm r)
    (brake : DrivesSafe s → BrakeSafe b) (low : deEnergised r.regime → b.output = false)
    (riding : DrivesSafe s → s.drives.tilt.mode = .run → isRiding r.regime = true) : Moves s (putControl r b s) :=
  (Move.control s r b form fun safe =>
    ⟨safe.tilt, safe.steer, (brake safe).output, (brake safe).timer, low, riding safe⟩).moves

/-- The brake record after an engage command (R163, R165). -/
def engageBrake (s : State) : Brake :=
  match s.drives.brake.state with
  | .releasing | .released =>
    if s.pins.brks then ⟨.engaging, false, some (after (now s) 150000)⟩ else ⟨.engaged, false, none⟩
  | .engaged | .engaging | .brakeFault => s.drives.brake

/-- The brake record after a release command (R162, R164). -/
def releaseBrake (s : State) : Brake :=
  match s.drives.brake.state with
  | .engaged | .engaging =>
    if s.pins.brks then ⟨.released, true, none⟩ else ⟨.releasing, true, some (after (now s) 150000)⟩
  | .releasing | .released | .brakeFault => s.drives.brake

theorem startEngaging_eq :
    startEngaging s =
      setBrake (if s.pins.brks then ⟨.engaging, false, some (after (now s) 150000)⟩ else ⟨.engaged, false, none⟩) s := by
  unfold startEngaging
  split <;> rfl

theorem startReleasing_eq :
    startReleasing s =
      setBrake (if s.pins.brks then ⟨.released, true, none⟩ else ⟨.releasing, true, some (after (now s) 150000)⟩) s := by
  unfold startReleasing
  split <;> rfl

theorem commandEngage_eq : commandEngage s = setBrake (engageBrake s) s := by
  unfold commandEngage engageBrake
  cases s.drives.brake.state with
  | releasing | released => exact startEngaging_eq s
  | engaged | engaging | brakeFault => rfl

theorem commandRelease_eq : commandRelease s = setBrake (releaseBrake s) s := by
  unfold commandRelease releaseBrake
  cases s.drives.brake.state with
  | engaged | engaging => exact startReleasing_eq s
  | releasing | released | brakeFault => rfl

/-- What engaging begins, and what it ends in with BRKS low (R163, R165). -/
theorem brakeSafe_engaging (b : Bool) (t : Time) :
    BrakeSafe (if b then ⟨.engaging, false, some t⟩ else ⟨.engaged, false, none⟩) := by
  cases b <;> exact ⟨by simp, by simp⟩

theorem brakeSafe_releasing (b : Bool) (t : Time) :
    BrakeSafe (if b then ⟨.released, true, none⟩ else ⟨.releasing, true, some t⟩) := by
  cases b <;> exact ⟨by simp, by simp⟩

theorem brakeSafe_engageBrake (h : BrakeSafe s.drives.brake) : BrakeSafe (engageBrake s) := by
  unfold engageBrake
  cases s.drives.brake.state with
  | releasing | released => exact brakeSafe_engaging _ _
  | engaged | engaging | brakeFault => exact h

theorem brakeSafe_releaseBrake (h : BrakeSafe s.drives.brake) : BrakeSafe (releaseBrake s) := by
  unfold releaseBrake
  cases s.drives.brake.state with
  | engaged | engaging => exact brakeSafe_releasing _ _
  | releasing | released | brakeFault => exact h

/-- After an engage command the brake neither releases nor is released (R163). -/
theorem engageBrake_state : (engageBrake s).state ≠ .releasing ∧ (engageBrake s).state ≠ .released := by
  unfold engageBrake
  cases state : s.drives.brake.state with
  | releasing | released => dsimp only; split <;> simp
  | engaged | engaging | brakeFault => simp [state]

/-- After an engage command the output is low (R163). -/
theorem engageBrake_output (h : BrakeSafe (engageBrake s)) : (engageBrake s).output = false :=
  h.low (engageBrake_state s).1 (engageBrake_state s).2

/-- A brake written with its output low. -/
theorem setBrake_low_moves (b : Brake) (brake : BrakeSafe s.drives.brake → BrakeSafe b)
    (low : BrakeSafe s.drives.brake → b.output = false) : Moves s (setBrake b s) :=
  (Move.control s s.regime b id fun safe =>
    ⟨safe.tilt, safe.steer, (brake safe.brake).output, (brake safe.brake).timer, fun _ => low safe.brake,
      safe.runRiding⟩).moves

theorem commandEngage_moves : Moves s (commandEngage s) := by
  rw [commandEngage_eq]
  exact setBrake_low_moves s _ (brakeSafe_engageBrake s) fun safe => engageBrake_output s (brakeSafe_engageBrake s safe)

/-! ### The form of a regime record (R31, R42, R62, R63) -/

theorem RegimeForm.no_blend {r : RegimeControl} (h : RegimeForm r) (release : r.regime ≠ .release)
    (capture : r.regime ≠ .capture) : r.blend = none := by
  cases blend : r.blend with
  | none => rfl
  | some b =>
    cases kind : b.kind with
    | release => exact absurd (h.releaseBlend.mpr ⟨b, blend, kind⟩) release
    | capture => exact absurd (h.captureBlend.mpr ⟨b, blend, kind⟩) capture

theorem RegimeForm.no_dwell {r : RegimeControl} (h : RegimeForm r) (other : r.regime ≠ .uprightHold) : r.dwellStart = none :=
  Option.not_isSome_iff_eq_none.mp fun held => other (h.dwell held)

theorem RegimeForm.no_phase {r : RegimeControl} (h : RegimeForm r) (other : r.regime ≠ .homing) : r.phase = none :=
  Option.not_isSome_iff_eq_none.mp fun held => other (h.phase.mp held)

theorem RegimeForm.no_safe {r : RegimeControl} (h : RegimeForm r) (other : r.regime ≠ .safe) : r.safeHolding = none :=
  Option.not_isSome_iff_eq_none.mp fun held => other (h.safeDrive.mp held)

/-- What a regime record holds only in particular regimes is absent in the others (R31). -/
theorem RegimeForm.of_absent {r : RegimeControl} (release : r.regime ≠ .release) (capture : r.regime ≠ .capture)
    (blend : r.blend = none) (dwell : r.dwellStart.isSome = true → r.regime = .uprightHold)
    (phase : r.phase.isSome = true ↔ r.regime = .homing) (safeDrive : r.safeHolding.isSome = true ↔ r.regime = .safe)
    (historyBound : r.history.length ≤ 8) (records : ∀ x ∈ r.history, RecordSafe x) : RegimeForm r where
  releaseBlend := by simp [blend, release]
  captureBlend := by simp [blend, capture]
  alphaStart b held := by rw [blend] at held; contradiction
  dwell := dwell
  phase := phase
  safeDrive := safeDrive
  historyBound := historyBound
  records := records

/-- α is at most 1024 (R43). -/
theorem alphaAt_le (r : Regime) (b : Option Blend) (t : Time) (start : ∀ x, b = some x → x.alphaStart ≤ 1024) :
    alphaAt r b t ≤ 1024 := by
  cases b with
  | none => cases r <;> simp [alphaAt]
  | some x =>
    have bound := start x rfl
    cases r with
    | release => exact Nat.min_le_left _ _
    | freeLean => exact Nat.le_refl _
    | capture => exact Nat.le_trans (Nat.sub_le _ _) bound
    | _ => exact Nat.zero_le _

theorem alpha_le {s : State} (h : RegimeForm s.regime) : alpha s ≤ 1024 := alphaAt_le _ _ _ h.alphaStart

/-- The selected speed is at most 2000 (R113). -/
theorem selectedSpeed_le {s : State} {v : Nat} (known : selectedSpeed s = some v) : v ≤ 2000 := by
  obtain ⟨x, -, rfl⟩ := Option.map_eq_some_iff.mp known
  exact Nat.min_le_left _ _

theorem speedNow_le : speedNow s ≤ 2000 := by
  unfold speedNow
  cases known : selectedSpeed s with
  | none => exact Nat.zero_le _
  | some v => exact selectedSpeed_le known

/-! ### The history (R62, R63) -/

theorem length_pushRecord_le (history : List AbortRecord) (r : AbortRecord) : (pushRecord history r).length ≤ 8 := by
  unfold pushRecord
  split
  · simp; omega
  · simp; omega

theorem forall_mem_pushRecord {P : AbortRecord → Prop} {history : List AbortRecord} {r : AbortRecord}
    (all : ∀ x ∈ history, P x) (new : P r) : ∀ x ∈ pushRecord history r, P x := by
  intro x mem
  unfold pushRecord at mem
  obtain old | rfl := by simpa using mem
  · split at old
    · exact all x (List.mem_of_mem_drop old)
    · exact all x old
  · exact new

/-- The record of a persistent abort (R62). -/
theorem recordSafe_makeRecord_safe {cause : AbortCause} {v : Nat} (form : RegimeForm s.regime)
    (persistent : persistence cause = .persistent) (speed : v ≤ 2000) : RecordSafe (makeRecord cause .safe v s) where
  capture captured := by simp [makeRecord] at captured
  safe _ := persistent
  target := .inr rfl
  alphaBound := alpha_le form
  speedBound := speed

/-- The record of a transient abort of a release (R62). -/
theorem recordSafe_makeRecord_capture {cause : AbortCause} {v : Nat} (form : RegimeForm s.regime)
    (transient : persistence cause = .transient) (release : s.regime.regime = .release) (speed : v ≤ 2000) :
    RecordSafe (makeRecord cause .capture v s) where
  capture _ := ⟨transient, release⟩
  safe safed := by simp [makeRecord] at safed
  target := .inl rfl
  alphaBound := alpha_le form
  speedBound := speed

/-- A record of SAFE, appended in SAFE (R60). -/
theorem appendRecord_moves {cause : AbortCause} {v : Nat} (persistent : persistence cause = .persistent) (speed : v ≤ 2000) :
    Moves s (appendRecord cause .safe v s) :=
  putRegime_same_moves s
    { s.regime with history := pushRecord s.regime.history (makeRecord cause .safe v s) } rfl fun form =>
    { form with
      historyBound := length_pushRecord_le _ _
      records := forall_mem_pushRecord form.records (recordSafe_makeRecord_safe s form persistent speed) }

/-! ### SAFE entry (R57 to R59) -/

/-- A channel written in form. -/
theorem setChannel_moves (c : ChannelId) (r : Channel) (form : ChannelSafe (getChannel s c) → ChannelSafe r) :
    Moves s (setChannel c r s) := (Move.channel s c r form).moves

/-- A channel sent out of SUSPECT with its suspect start dropped. -/
theorem ChannelSafe.restate {c : Channel} (h : ChannelSafe c) {st : ChannelState} (other : st ≠ .suspect) :
    ChannelSafe { c with state := st, suspectStart := none } :=
  ⟨h.tallyBound, by simp [other]⟩

theorem abandonSeek_moves (c : ChannelId) : Moves s (abandonSeek c s) := by
  unfold abandonSeek
  split
  · exact setChannel_moves s c _ fun form => ⟨form.tallyBound, by simp⟩
  · exact .refl

theorem abandonHoming_moves : Moves s (abandonHoming s) := by
  unfold abandonHoming
  split
  · exact (abandonSeek_moves s .tilt).trans (abandonSeek_moves _ .steer)
  · exact .refl

/-- The tilt drive holds at SAFE entry (R58). -/
def tiltHolds (s : State) : Bool :=
  !(decide (s.drives.tilt.mode = .fault) || !angleState s.channels.tilt.state || decide (s.drives.brake.state = .engaged)
      || decide (s.drives.brake.state = .brakeFault))

/-- The command to the tilt drive at SAFE entry (R58). -/
def safeTiltCommand (s : State) : DriveCommand := if tiltHolds s then .hold s.law.lambdaT else .off

/-- The command to the steer drive at SAFE entry (R59). -/
def safeSteerCommand (s : State) : DriveCommand :=
  if s.drives.steer.mode ≠ .fault ∧ angleState s.channels.steer.state ∧ angleState s.channels.bar.state then .run else .off

theorem safeTilt_eq :
    safeTilt s = setSafeHolding (some (tiltHolds s)) (commandDrive .tilt (safeTiltCommand s) s) := by
  unfold safeTilt safeTiltCommand tiltHolds
  by_cases off : s.drives.tilt.mode = .fault ∨ ¬ angleState s.channels.tilt.state ∨ s.drives.brake.state = .engaged
      ∨ s.drives.brake.state = .brakeFault
  · rw [if_pos off, if_neg]
    · congr
      simp only [Bool.not_eq_true] at off
      obtain a | a | a | a := off <;> simp [a]
    · simp only [Bool.not_eq_true] at off
      obtain a | a | a | a := off <;> simp [a]
  · rw [if_neg off, if_pos]
    · simp only [not_or, Bool.not_eq_true] at off
      obtain ⟨a, b, c, d⟩ := off
      simp [a, b, c, d]
    · simp only [not_or, Bool.not_eq_true] at off
      obtain ⟨a, b, c, d⟩ := off
      simp [a, b, c, d]

theorem safeSteer_eq : safeSteer s = commandDrive .steer (safeSteerCommand s) s := by
  unfold safeSteer safeSteerCommand
  split <;> rfl

/-- The state as SAFE entry leaves channels, brake and drives (R57 to R59, R99). -/
def safeMechanism (s : State) : State :=
  let engaged := commandEngage (abandonHoming s)
  let held := commandDrive .tilt (safeTiltCommand engaged) engaged
  commandDrive .steer (safeSteerCommand held) held

/-- The regime record after SAFE entry (R57, R58, R62). -/
def safeRegime (cause : AbortCause) (speed : Nat) (s : State) : RegimeControl :=
  { s.regime with
    regime := .safe
    blend := none
    dwellStart := none
    phase := none
    safeHolding := some (tiltHolds (commandEngage (abandonHoming s)))
    history := pushRecord s.regime.history (makeRecord cause .safe speed s) }

theorem abandonSeek_putRegime (c : ChannelId) (r : RegimeControl) :
    abandonSeek c (putRegime r s) = putRegime r (abandonSeek c s) := by
  have channel : getChannel (putRegime r s) c = getChannel s c := by cases c <;> rfl
  unfold abandonSeek
  rw [channel]
  split
  · cases c <;> rfl
  · rfl

theorem abandonHoming_putRegime (r : RegimeControl) (same : r.regime = s.regime.regime) :
    abandonHoming (putRegime r s) = putRegime r (abandonHoming s) := by
  unfold abandonHoming
  rw [show (putRegime r s).regime.regime = s.regime.regime from same]
  split
  · rw [abandonSeek_putRegime, abandonSeek_putRegime]
  · rfl

theorem tiltHolds_putRegime (r : RegimeControl) : tiltHolds (putRegime r s) = tiltHolds s := rfl

/-- The regime record once the record is made and blend, dwell and phase have ended (R57). -/
def safeBegun (cause : AbortCause) (speed : Nat) (s : State) : RegimeControl :=
  { s.regime with
    blend := none
    dwellStart := none
    phase := none
    history := pushRecord s.regime.history (makeRecord cause .safe speed s) }

theorem safe_ended (cause : AbortCause) (speed : Nat) :
    setPhase none (setDwell none (setBlend none (abandonHoming (appendRecord cause .safe speed s)))) =
      putRegime (safeBegun cause speed s) (abandonHoming s) := by
  have record : appendRecord cause .safe speed s =
      putRegime { s.regime with history := pushRecord s.regime.history (makeRecord cause .safe speed s) } s := rfl
  have same : RegimeControl.regime
      { s.regime with history := pushRecord s.regime.history (makeRecord cause .safe speed s) } = s.regime.regime := rfl
  have regime : (abandonHoming s).regime = s.regime := by simp
  rw [record, abandonHoming_putRegime _ _ same]
  rfl

/-- The mechanism of SAFE entry reads nothing of the regime record but the regime it leaves. -/
theorem safe_moded (r : RegimeControl) :
    safeSteer (safeTilt (commandEngage (putRegime r (abandonHoming s)))) =
      putRegime { r with safeHolding := some (tiltHolds (commandEngage (abandonHoming s))) } (safeMechanism s) := by
  rw [commandEngage_putRegime, safeTilt_eq, tiltHolds_putRegime,
    show safeTiltCommand (putRegime r (commandEngage (abandonHoming s))) =
      safeTiltCommand (commandEngage (abandonHoming s)) from rfl, commandDrive_putRegime, safeSteer_eq]
  have marked (u : State) (h : Option Bool) : setSafeHolding h (putRegime r u) = putRegime { r with safeHolding := h } u := rfl
  rw [marked]
  exact commandDrive_putRegime _ _ _ _

/-- SAFE entry in one write of the regime record: the mechanism, the record, the notice and the event (R36, R57). -/
theorem enterSafe_eq (cause : AbortCause) (speed : Nat) :
    enterSafe cause speed s =
      deliver .regimeEvent (regimeKinds false (s.regime.regime == .release) false true)
        (postRegimeNotice ⟨.safe, s.regime.regime, some cause, 0, nowMs s⟩
          (putRegime (safeRegime cause speed s) (safeMechanism s))) := by
  have time : nowMs (safeMechanism s) = nowMs s := by simp [nowMs, now, safeMechanism]
  unfold enterSafe
  dsimp only
  rw [safe_ended, safe_moded, changeRegime_eq_putRegime]
  simp only [putRegime_putRegime]
  congr 2
  rw [← time]
  rfl

theorem safeMechanism_moves : Moves s (safeMechanism s) := by
  have engaged := (abandonHoming_moves s).trans (commandEngage_moves (abandonHoming s))
  refine (engaged.trans (commandDrive_moves _ .tilt _ fun _ run => ?_)).trans (commandSteer_moves _ _)
  unfold safeTiltCommand at run
  split at run <;> contradiction

/-- In SAFE the brake output is low and the tilt drive is not in RUN (R30, R58). -/
theorem safeMechanism_low (h : DrivesSafe (safeMechanism s)) : (safeMechanism s).drives.brake.output = false := by
  have brake : (safeMechanism s).drives.brake = engageBrake (abandonHoming s) := by
    simp [safeMechanism, commandEngage_eq, setBrake]
  have form := h.brake
  rw [brake] at form ⊢
  exact engageBrake_output _ form

/-- At SAFE entry the tilt drive is not in RUN (R58). -/
theorem safeMechanism_tilt : (safeMechanism s).drives.tilt.mode ≠ .run := by
  unfold safeMechanism
  rw [commandSteer_tilt]
  apply commandTilt_mode_ne_run
  unfold safeTiltCommand
  split <;> simp

theorem enterSafe_moves {cause : AbortCause} {speed : Nat} (persistent : persistence cause = .persistent)
    (bound : speed ≤ 2000) : Moves s (enterSafe cause speed s) := by
  rw [enterSafe_eq]
  have regime : (safeMechanism s).regime = s.regime := by simp [safeMechanism]
  have entered : Moves (safeMechanism s) (putRegime (safeRegime cause speed s) (safeMechanism s)) := by
    refine putRegime_move _ _ (fun form => ?_) (fun safe _ => safeMechanism_low s safe) fun _ run => ?_
    · rw [regime] at form
      exact .of_absent (by simp [safeRegime]) (by simp [safeRegime]) rfl (by simp [safeRegime]) (by simp [safeRegime])
        (by simp [safeRegime]) (length_pushRecord_le _ _)
        (forall_mem_pushRecord form.records (recordSafe_makeRecord_safe s form persistent bound))
    · exact absurd run (safeMechanism_tilt s)
  exact (((safeMechanism_moves s).trans entered).trans (postRegimeNotice_moves _ _)).trans (deliver_moves _ _ _)

/-- The tilt drive OFF in SAFE (R58, R60). -/
theorem safeTiltOff_moves (safe : s.regime.regime = .safe) : Moves s (safeTiltOff s) := by
  refine (commandOff_moves s .tilt).trans (putRegime_same_moves _ { (commandDrive .tilt .off s).regime with
    safeHolding := some false } rfl fun form => { form with safeDrive := ?_ })
  simp [safe]

theorem safeFaultEffect_moves (source : FaultSource) (safe : s.regime.regime = .safe) : Moves s (safeFaultEffect source s) := by
  cases source with
  | channel c =>
    cases c with
    | tilt => exact safeTiltOff_moves s safe
    | steer | bar => exact commandOff_moves s .steer
  | drive d =>
    cases d with
    | tilt => exact safeTiltOff_moves s safe
    | steer => exact commandOff_moves s .steer
  | brake => exact safeTiltOff_moves s safe
  | wheel w => exact .refl

/-! ### Fault reports (R35, R54 to R56) -/

theorem homingCheck_moves : Moves s (homingCheck s) := by
  unfold homingCheck
  split
  · next creeps =>
    refine (commandEngage_moves s).trans (putRegime_same_moves _ { (commandEngage s).regime with phase := some .engaging }
      rfl fun form => { form with phase := ?_ })
    have homing := form.phase
    simp only [commandEngage_frame, creeps.1, Option.isSome_some, true_iff] at homing ⊢
    exact homing
  · exact .refl

theorem homingChannelFault_moves (c : ChannelId) : Moves s (homingChannelFault c s) := by
  cases c with
  | tilt => exact (commandOff_moves s .tilt).trans (homingCheck_moves _)
  | steer => exact (commandOff_moves s .steer).trans (homingCheck_moves _)
  | bar => exact .refl

/-- The causes of fault reports are persistent (R62). -/
theorem persistence_faultAbortCause {source : FaultSource} {cause : AbortCause} (h : faultAbortCause source = some cause) :
    persistence cause = .persistent := by
  cases source <;> simp [faultAbortCause] at h <;> subst h <;> rfl

theorem actOnFault_moves (source : FaultSource) : Moves s (actOnFault source s) := by
  unfold actOnFault
  split
  · exact .refl
  · next cause named =>
    have persistent := persistence_faultAbortCause named
    have enters := enterSafe_moves s persistent (speedNow_le s)
    split
    · exact .refl
    · exact .refl
    · split
      · exact homingChannelFault_moves s _
      · exact enters
    · next safe => exact (appendRecord_moves s persistent (speedNow_le s)).trans (safeFaultEffect_moves _ source safe)
    · exact enters

theorem faultReport_moves (source : FaultSource) (cause : FaultCause) (value : Int) :
    Moves s (faultReport source cause value s) :=
  (postFaultNotice_moves s _).trans (actOnFault_moves _ source)

/-! ### Blends and law samples (R40, R42, R44 to R49) -/

theorem startRelease_moves (hold : s.regime.regime = .uprightHold) : Moves s (startRelease s) := by
  refine (changeRegime_putRegime_moves s .release none
    { s.regime with blend := some (releaseBlend s), dwellStart := none }
    (putRegime_riding_moves s _ rfl fun form => ?_)).trans (deliver_moves _ _ _)
  have phase := form.no_phase (by simp [hold])
  have safeDrive := form.no_safe (by simp [hold])
  exact ⟨by simp [releaseBlend], by simp [releaseBlend], by simp [releaseBlend], by simp, by simp [phase],
    by simp [safeDrive], form.historyBound, form.records⟩

theorem finishCapture_moves (capture : s.regime.regime = .capture) : Moves s (finishCapture s) := by
  refine changeRegime_putRegime_moves s .uprightHold none { s.regime with blend := none, dwellStart := none }
    (putRegime_riding_moves s _ rfl fun form => ?_)
  have phase := form.no_phase (by simp [capture])
  have safeDrive := form.no_safe (by simp [capture])
  exact .of_absent (by simp) (by simp) rfl (by simp) (by simp [phase]) (by simp [safeDrive]) form.historyBound form.records

theorem startCapture_moves (free : s.regime.regime = .freeLean) : Moves s (startCapture s) := by
  refine (changeRegime_putRegime_moves s .capture none { s.regime with blend := some (captureBlend 1024 s) }
    (putRegime_riding_moves s _ rfl fun form => ?_)).trans (deliver_moves _ _ _)
  have phase := form.no_phase (by simp [free])
  have safeDrive := form.no_safe (by simp [free])
  have dwell := form.no_dwell (by simp [free])
  exact ⟨by simp [captureBlend], by simp [captureBlend], by simp [captureBlend], by simp [dwell], by simp [phase],
    by simp [safeDrive], form.historyBound, form.records⟩

theorem transientAbort_moves {cause : AbortCause} {speed : Nat} (release : s.regime.regime = .release)
    (transient : persistence cause = .transient) (bound : speed ≤ 2000) : Moves s (transientAbort cause speed s) := by
  have captured : Moves s (deliver .regimeEvent (regimeKinds false true true false)
      (changeRegime .capture (some cause)
        (setBlend (some (captureBlend (alpha s) s)) (appendRecord cause .capture speed s)))) := by
    refine (changeRegime_putRegime_moves s .capture (some cause)
      { s.regime with
        blend := some (captureBlend (alpha s) s)
        history := pushRecord s.regime.history (makeRecord cause .capture speed s) }
      (putRegime_riding_moves s _ rfl fun form => ?_)).trans (deliver_moves _ _ _)
    have phase := form.no_phase (by simp [release])
    have safeDrive := form.no_safe (by simp [release])
    have dwell := form.no_dwell (by simp [release])
    have start := alpha_le form
    exact ⟨by simp [captureBlend], by simp [captureBlend], by simpa [captureBlend] using start, by simp [dwell],
      by simp [phase], by simp [safeDrive], length_pushRecord_le _ _,
      forall_mem_pushRecord form.records (recordSafe_makeRecord_capture s form transient release bound)⟩
  unfold transientAbort
  dsimp only
  split
  · exact captured.trans (finishCapture_moves _ (by simp [changeRegime]))
  · exact captured

theorem dwellStep_moves (v : Nat) (hold : s.regime.regime = .uprightHold) : Moves s (dwellStep v s) := by
  have dwells (d : Option Time) : Moves s (setDwell d s) :=
    putRegime_same_moves s { s.regime with dwellStart := d } rfl fun form => { form with dwell := fun _ => hold }
  unfold dwellStep
  split
  · split
    · exact dwells _
    · split
      · exact startRelease_moves s hold
      · exact .refl
  · exact dwells none

/-- The causes a sample gives in RELEASE are transient (R45, R62). -/
theorem persistence_abortCauseOf {x : Sample} {cause : AbortCause} (h : abortCauseOf x s = some cause) :
    persistence cause = .transient := by
  revert h
  unfold abortCauseOf
  repeat' split
  all_goals
    intro h
    cases h <;> rfl

theorem releaseStep_moves (x : Sample) (release : s.regime.regime = .release) (bound : x.vLaw ≤ 2000) :
    Moves s (releaseStep x s) := by
  unfold releaseStep
  split
  · next cause named => exact transientAbort_moves s release (persistence_abortCauseOf s named) bound
  · exact .refl

theorem safeSampleStep_moves (p : Option Sample) (x : Sample) (bound : x.vLaw ≤ 2000) : Moves s (safeSampleStep p x s) := by
  unfold safeSampleStep
  split
  · exact appendRecord_moves s rfl bound
  · exact .refl

theorem ridingSample_moves (x : Sample) (step : State → State) (bound : x.vLaw ≤ 2000) (moves : Moves s (step s)) :
    Moves s (ridingSample x step s) := by
  unfold ridingSample
  split
  · exact enterSafe_moves s rfl bound
  · exact moves

theorem takeSample_moves (x : Sample) (bound : x.vLaw ≤ 2000) : Moves s (takeSample x s) := by
  have kept : Moves s (putRegime { s.regime with latest := some x } s) :=
    putRegime_same_moves s _ rfl fun form => { form with }
  refine kept.trans ?_
  show Moves _ (takeSample x s)
  unfold takeSample
  dsimp only
  split
  · exact .refl
  · exact .refl
  · exact .refl
  · exact ridingSample_moves _ x id bound .refl
  · next hold => exact ridingSample_moves _ x _ bound (dwellStep_moves _ x.vLaw hold)
  · next release => exact ridingSample_moves _ x _ bound (releaseStep_moves _ x release bound)
  · next free =>
    refine ridingSample_moves _ x _ bound ?_
    split
    · exact startCapture_moves _ free
    · exact .refl
  · exact ridingSample_moves _ x id bound .refl
  · exact ridingSample_moves _ x id bound .refl
  · exact safeSampleStep_moves _ _ x bound

/-! ### PARKED (R30, R51, R55) -/

theorem bothOff_putRegime (r : RegimeControl) : bothOff (putRegime r s) = putRegime r (bothOff s) := by
  unfold bothOff
  rw [commandDrive_putRegime, commandDrive_putRegime]

@[simp] theorem bothOff_brake : (bothOff s).drives.brake = s.drives.brake := by simp [bothOff]

theorem bothOff_tilt : (bothOff s).drives.tilt.mode ≠ .run := by
  unfold bothOff
  rw [commandSteer_tilt]
  exact commandTilt_mode_ne_run s (by simp)

/-- A regime record written with both drives OFF, where the brake output is low. -/
theorem putRegime_bothOff_moves (r : RegimeControl) (form : RegimeForm s.regime → RegimeForm r)
    (low : s.drives.brake.state = .engaged ∨ deEnergised s.regime.regime) :
    Moves s (putRegime r (bothOff s)) := by
  have regime : (bothOff s).regime = s.regime := by simp
  refine (bothOff_moves s).trans (putRegime_move _ r (by rw [regime]; exact form) (fun safe _ => ?_) fun _ run => ?_)
  · obtain engaged | lowRegime := low
    · exact safe.brake.low (by simp [engaged]) (by simp [engaged])
    · exact safe.deEnergised (by rw [regime]; exact lowRegime)
  · exact absurd run (bothOff_tilt s)

/-- PARKED is entered in one write of the regime record, with its notice. -/
theorem enterParked_putRegime_moves (r : RegimeControl)
    (form : RegimeForm s.regime → RegimeForm { r with regime := .parked })
    (low : s.drives.brake.state = .engaged ∨ deEnergised s.regime.regime) : Moves s (enterParked (putRegime r s)) := by
  unfold enterParked
  rw [bothOff_putRegime, changeRegime_eq_putRegime]
  exact (putRegime_bothOff_moves s _ form low).trans (postRegimeNotice_moves _ _)

/-- PARKED entered from INIT or LOCKING. -/
theorem enterParked_moves (from_ : s.regime.regime = .init ∨ s.regime.regime = .locking)
    (low : s.drives.brake.state = .engaged ∨ deEnergised s.regime.regime) : Moves s (enterParked s) := by
  refine enterParked_putRegime_moves s s.regime (fun form => ?_) low
  have blend := form.no_blend (by obtain h | h := from_ <;> simp [h]) (by obtain h | h := from_ <;> simp [h])
  have dwell := form.no_dwell (by obtain h | h := from_ <;> simp [h])
  have phase := form.no_phase (by obtain h | h := from_ <;> simp [h])
  have safeDrive := form.no_safe (by obtain h | h := from_ <;> simp [h])
  exact .of_absent (by simp) (by simp) blend (by simp [dwell]) (by simp [phase]) (by simp [safeDrive]) form.historyBound
    form.records

/-- A law record written with its flags as they are tells nothing. -/
theorem putLaw_of_same (l : Law) (same : l.flags.limit = s.law.flags.limit) : putLaw l s = { s with law := l } := by
  unfold putLaw tellLimited
  rw [if_pos same]

theorem putLaw_same_moves (l : Law) (same : l.flags.limit = s.law.flags.limit)
    (tilt : s.law.lambdaT.natAbs ≤ (par s).tiltLimit → l.lambdaT.natAbs ≤ (par s).tiltLimit)
    (steer : s.law.deltaT.natAbs ≤ (par s).steerLimit → l.deltaT.natAbs ≤ (par s).steerLimit)
    (ring : s.law.ring.length ≤ 6 → l.ring.length ≤ 6) : Moves s { s with law := l } := by
  rw [← putLaw_of_same s l same]
  exact (Move.law s l tilt steer ring).moves

theorem leaveInitStep_moves (init : s.regime.regime = .init) : Moves s (leaveInitStep s) := by
  exact (enterParked_moves s (.inl init) (.inr (.inl init))).trans
    (putLaw_same_moves _ { (enterParked s).law with timer := some (after (now s) 2000), ring := [] } rfl id id
      fun _ => Nat.zero_le _)

theorem brakeEngagedStep_moves (engaged : s.drives.brake.state = .engaged) : Moves s (brakeEngagedStep s) := by
  unfold brakeEngagedStep
  split
  · next locking => exact enterParked_moves s (.inr locking) (.inl engaged)
  · next homing =>
    refine enterParked_putRegime_moves s { s.regime with phase := none } (fun form => ?_) (.inl engaged)
    have blend := form.no_blend (by simp [homing]) (by simp [homing])
    have dwell := form.no_dwell (by simp [homing])
    have safeDrive := form.no_safe (by simp [homing])
    exact .of_absent (by simp) (by simp) blend (by simp [dwell]) (by simp) (by simp [safeDrive]) form.historyBound
      form.records
  · next safe => exact safeTiltOff_moves s safe
  · exact .refl

/-- The end of a release (R48). -/
theorem releaseEnd_moves (release : s.regime.regime = .release) :
    Moves s (changeRegime .freeLean none (setBlend none s)) := by
  refine changeRegime_putRegime_moves s .freeLean none { s.regime with blend := none }
    (putRegime_riding_moves s _ rfl fun form => ?_)
  have phase := form.no_phase (by simp [release])
  have safeDrive := form.no_safe (by simp [release])
  have dwell := form.no_dwell (by simp [release])
  exact .of_absent (by simp) (by simp) rfl (by simp [dwell]) (by simp [phase]) (by simp [safeDrive]) form.historyBound
    form.records

end Sys2Proof.Machine
end

section
/-! The commands of the channels, the brake and the drives, each a run of moves. -/

namespace Sys2Proof.Machine

variable (s : State)

/-! ### Channels (R81 to R100) -/

theorem faultChannel_moves (c : ChannelId) (cause : FaultCause) (value : Int) : Moves s (faultChannel c cause value s) :=
  (setChannel_moves s c _ fun form => form.restate (by simp)).trans (faultReport_moves _ _ _ _)

theorem rangeCheck_moves (c : ChannelId) : Moves s (rangeCheck c s) := by
  unfold rangeCheck
  split
  · exact .refl
  · split
    · exact faultChannel_moves s c _ _
    · exact .refl

theorem homingTimeout_moves (c : ChannelId) : Moves s (homingTimeout c s) := by
  unfold homingTimeout
  split
  · exact faultChannel_moves s c _ _
  · exact .refl

theorem indexFound_moves (c : ChannelId) : Moves s (indexFound c s) := by
  unfold indexFound
  split
  · exact (commandHold_moves s .tilt 0).trans (homingCheck_moves _)
  · exact (commandHold_moves s .steer 0).trans (homingCheck_moves _)
  · exact .refl

/-- A channel out of SUSPECT is homed at its index (R89). -/
theorem homeAtIndex_moves (c : ChannelId) (other : (getChannel s c).state ≠ .suspect) : Moves s (homeAtIndex c s) := by
  refine setChannel_moves s c _ fun form => ⟨form.tallyBound, ?_⟩
  have held := form.suspectHeld
  simp only [other, iff_false, reduceCtorEq] at held ⊢
  exact held

theorem confirmIndex_moves (c : ChannelId) : Moves s (confirmIndex c s) := by
  unfold confirmIndex
  dsimp only
  split
  · exact setChannel_moves s c _ fun form => ⟨form.tallyBound, by simp⟩
  · refine .trans ?_ (faultChannel_moves _ c _ _)
    exact setChannel_moves s c _ fun form => ⟨form.tallyBound, form.suspectHeld⟩

theorem indexEvent_moves (c : ChannelId) : Moves s (indexEvent c s) := by
  unfold indexEvent
  split
  · next unhomed =>
    split
    · exact homeAtIndex_moves s c (by simp [unhomed])
    · exact .refl
  · next seeking => exact (homeAtIndex_moves s c (by simp [seeking])).trans (indexFound_moves _ c)
  · exact confirmIndex_moves s c
  · exact confirmIndex_moves s c
  · exact .refl

theorem directionTest_moves (c : ChannelId) (d : Direction) : Moves s (directionTest c d s) := by
  unfold directionTest
  split
  · exact .refl
  · refine .trans ?_ (deliver_moves _ _ _)
    exact setChannel_moves s c _ fun form => ⟨form.tallyBound, form.suspectHeld⟩

theorem legalStep_moves (c : ChannelId) (m : LineMove) (lines : LinePair) (z : Bool) : Moves s (legalStep c m lines z s) := by
  unfold legalStep
  dsimp only
  refine Moves.trans ?_ (rangeCheck_moves _ c)
  have tested := (setChannel_moves s c { getChannel s c with count := stepCount m (getChannel s c).count, lines := lines }
    fun form => ⟨form.tallyBound, form.suspectHeld⟩).trans (directionTest_moves _ c (moveDirection m))
  split
  · exact tested.trans (indexEvent_moves _ c)
  · exact tested

theorem illegalTransition_moves (c : ChannelId) (lines : LinePair) : Moves s (illegalTransition c lines s) := by
  unfold illegalTransition
  dsimp only
  refine (setChannel_moves s c _ fun form => ?_).trans (deliver_moves _ _ _)
  split
  · exact ⟨Nat.min_le_left _ _, by simp⟩
  · exact ⟨Nat.min_le_left _ _, form.suspectHeld⟩

theorem lineStep_moves (c : ChannelId) (lines : LinePair) (z : Bool) : Moves s (lineStep c lines z s) := by
  unfold lineStep
  split
  · exact .refl
  · exact illegalTransition_moves s c lines
  · exact legalStep_moves s c .up lines z
  · exact legalStep_moves s c .down lines z

theorem creepStart_moves (d : DriveId) : Moves s (creepStart d s) := by
  unfold creepStart
  split
  · split
    · exact homingTimeout_moves s _
    · exact commandCreep_moves s d
  · exact commandHold_moves s d 0
  · exact commandHold_moves s d 0
  · exact commandOff_moves s d
  · exact .refl

theorem sampleSides_moves (tside sside : Bool) : Moves s (sampleSides tside sside s) := (Move.pins s _).moves

theorem brakeReleasedStep_moves : Moves s (brakeReleasedStep s) := by
  unfold brakeReleasedStep
  split
  · next unlocking =>
    refine changeRegime_putRegime_moves s .uprightHold none { s.regime with dwellStart := none }
      (putRegime_riding_moves s _ rfl fun form => ?_)
    have blend := form.no_blend (by simp [unlocking]) (by simp [unlocking])
    have phase := form.no_phase (by simp [unlocking])
    have safeDrive := form.no_safe (by simp [unlocking])
    exact .of_absent (by simp) (by simp) blend (by simp) (by simp [phase]) (by simp [safeDrive]) form.historyBound
      form.records
  · next homing =>
    have begun : Moves s (setPhase (some .creep) s) :=
      putRegime_same_moves s { s.regime with phase := some .creep } rfl fun form =>
        { form with phase := by simp [homing] }
    exact ((begun.trans (creepStart_moves _ .tilt)).trans (creepStart_moves _ .steer)).trans (homingCheck_moves _)
  · exact .refl

theorem unhomeChannel_moves (c : ChannelId) : Moves s (unhomeChannel c s) :=
  setChannel_moves s c _ fun form => ⟨form.tallyBound, by simp⟩

theorem seekChannel_moves (c : ChannelId) : Moves s (seekChannel c s) := by
  unfold seekChannel
  split
  · exact .refl
  · exact setChannel_moves s c _ fun form => ⟨form.tallyBound, by simp⟩

theorem clearChannel_moves (c : ChannelId) : Moves s (clearChannel c s) := by
  unfold clearChannel
  split
  · exact setChannel_moves s c _ fun form => ⟨form.tallyBound, by simp⟩
  · exact .refl

/-! ### Brake (R161 to R168) -/

theorem setBrks_moves (level : Bool) : Moves s (setBrks level s) := (Move.pins s _).moves

theorem faultBrake_moves (cause : FaultCause) : Moves s (faultBrake cause s) :=
  (setBrake_low_moves s _ (fun _ => ⟨by simp, by simp⟩) fun _ => rfl).trans (faultReport_moves _ _ _ _)

/-- A release that completes keeps its output (R164). -/
theorem completeRelease_moves (releasing : s.drives.brake.state = .releasing) :
    Moves s (setBrake ⟨.released, s.drives.brake.output, none⟩ s) := by
  refine (Move.control s s.regime ⟨.released, s.drives.brake.output, none⟩ id fun safe =>
    ⟨safe.tilt, safe.steer, ?_, by simp [putControl], safe.deEnergised, safe.runRiding⟩).moves
  have output := safe.output
  simp only [releasing, true_or, iff_true] at output
  simp [putControl, output]

theorem brksRiseStep_moves : Moves s (brksRiseStep s) := by
  unfold brksRiseStep
  split
  · next releasing =>
    exact (setBrks_moves s true).trans (completeRelease_moves (setBrks true s) releasing)
  · exact (setBrks_moves s true).trans (faultBrake_moves _ _)
  · exact setBrks_moves s true
  · exact setBrks_moves s true
  · exact setBrks_moves s true

theorem brksFallStep_moves : Moves s (brksFallStep s) := by
  unfold brksFallStep
  split
  · next engaging =>
    have low (safe : BrakeSafe s.drives.brake) : s.drives.brake.output = false :=
      safe.low (by simp [engaging]) (by simp [engaging])
    exact (setBrks_moves s false).trans (setBrake_low_moves _ _ (fun safe => ⟨by simp [low safe], by simp⟩) low)
  · exact (setBrks_moves s false).trans (faultBrake_moves _ _)
  · exact setBrks_moves s false
  · exact setBrks_moves s false
  · exact setBrks_moves s false

theorem brakeTimeoutStep_moves : Moves s (brakeTimeoutStep s) := by
  unfold brakeTimeoutStep
  split
  · exact faultBrake_moves s _
  · exact faultBrake_moves s _
  · exact .refl
  · exact .refl
  · exact .refl

theorem clearBrake_moves : Moves s (clearBrake s) := by
  unfold clearBrake
  split
  · rw [startEngaging_eq]
    refine setBrake_low_moves s _ (fun _ => brakeSafe_engaging _ _) fun _ => ?_
    split <;> rfl
  · exact .refl

/-! ### Drives (R149 to R160) -/

theorem putDrive_moves (d : DriveId) (r : Drive)
    (duties : dutiesWithin (par s).uMax (getDrive s d) → dutiesWithin (par s).uMax r)
    (form : DriveSafe (getDrive s d) → DriveSafe r) (mode : r.mode = .run → (getDrive s d).mode = .run) :
    Moves s (putDrive d r s) :=
  (Move.drive s d r duties form fun _ run => .inl (mode run)).moves

/-- A drive record with its saturation kept, written in form. -/
theorem setDrive_moves (d : DriveId) (r : Drive) (same : r.saturated = (getDrive s d).saturated)
    (duties : dutiesWithin (par s).uMax (getDrive s d) → dutiesWithin (par s).uMax r)
    (form : DriveSafe (getDrive s d) → DriveSafe r) (mode : r.mode = .run → (getDrive s d).mode = .run) :
    Moves s (setDrive d r s) := by
  rw [← putDrive_of_same s d r same.symm]
  exact putDrive_moves s d r duties form mode

/-- A faulted drive that no longer saturates is in form (R160). -/
theorem driveSafe_faulted (r : Drive) : DriveSafe { faultedDrive r with saturated := false } := by
  constructor <;> simp [faultedDrive]

theorem faultDrive_eq (d : DriveId) (cause : FaultCause) (value : Int) :
    faultDrive d cause value s =
      faultReport (.drive d) cause value (putDrive d { faultedDrive (getDrive s d) with saturated := false } s) := by
  unfold faultDrive
  rw [endSaturation_setDrive_eq s d (faultedDrive (getDrive s d)) rfl]

theorem putFaulted_moves (d : DriveId) (r : Drive) :
    Moves s (putDrive d { faultedDrive r with saturated := false } s) :=
  putDrive_moves s d _ (fun _ => ⟨Nat.zero_le _, Nat.zero_le _⟩) (fun _ => driveSafe_faulted r)
    fun run => by simp [faultedDrive] at run

theorem faultDrive_moves (d : DriveId) (cause : FaultCause) (value : Int) : Moves s (faultDrive d cause value s) := by
  rw [faultDrive_eq]
  exact (putFaulted_moves s d _).trans (faultReport_moves _ _ _ _)

/-- The record of a drive whose period is cut for the first time (R158). -/
def cutRecord (r : Drive) : Drive := { r with cutFlag := true, cutRun := r.cutRun + 1 }

theorem cutPeriod_of_cut (d : DriveId) (cut : (getDrive s d).cutFlag = true) : cutPeriod d s = overloadTest d s := if_pos cut

theorem cutPeriod_of_not (d : DriveId) (whole : (getDrive s d).cutFlag = false) :
    cutPeriod d s = overloadTest d (deliver .driveCut (driveKind d) (setDrive d (cutRecord (getDrive s d)) s)) :=
  if_neg (by simp [whole])

/-- The cut that reaches the overload faults the drive after its DRIVE_CUT, and the cut run of 400 never stands (R159). -/
theorem faultDrive_cut (d : DriveId) (cause : FaultCause) (value : Int) :
    faultDrive d cause value (deliver .driveCut (driveKind d) (setDrive d (cutRecord (getDrive s d)) s)) =
      faultReport (.drive d) cause value
        (putDrive d { faultedDrive (getDrive s d) with saturated := false } (deliver .driveCut (driveKind d) s)) := by
  have drive : getDrive (deliver .driveCut (driveKind d) s) d = getDrive s d := by cases d <;> simp [getDrive]
  rw [faultDrive_eq, deliver_comm _ _ (setDrive_writesBeside s d _), getDrive_setDrive,
    putDrive_setDrive _ d _ _ (by rw [drive]; rfl)]
  rfl

theorem overloadTest_of_lt (d : DriveId) (few : (getDrive s d).cutRun < 400) : overloadTest d s = s :=
  if_neg (Nat.not_le.mpr few)

theorem overloadTest_of_le (d : DriveId) (many : 400 ≤ (getDrive s d).cutRun) :
    overloadTest d s = faultDrive d .overload (getDrive s d).active s := if_pos many

theorem getDrive_deliver (e : CounterEvent) (kinds : Byte) (d : DriveId) :
    getDrive (deliver e kinds s) d = getDrive s d := by cases d <;> simp [getDrive]

theorem cutPeriod_moves (d : DriveId) : Moves s (cutPeriod d s) := by
  by_cases cut : (getDrive s d).cutFlag = true
  · rw [cutPeriod_of_cut s d cut]
    by_cases many : 400 ≤ (getDrive s d).cutRun
    · rw [overloadTest_of_le s d many]
      exact faultDrive_moves s d _ _
    · rw [overloadTest_of_lt s d (Nat.not_le.mp many)]
      exact .refl
  · rw [cutPeriod_of_not s d (by simpa using cut)]
    have drive : getDrive (deliver .driveCut (driveKind d) (setDrive d (cutRecord (getDrive s d)) s)) d =
        cutRecord (getDrive s d) := by rw [getDrive_deliver, getDrive_setDrive]
    by_cases many : 400 ≤ (cutRecord (getDrive s d)).cutRun
    · rw [overloadTest_of_le _ d (by rw [drive]; exact many), faultDrive_cut]
      exact ((deliver_moves s _ _).trans (putFaulted_moves _ d _)).trans (faultReport_moves _ _ _ _)
    · rw [overloadTest_of_lt _ d (by rw [drive]; exact Nat.not_le.mp many)]
      refine .trans ?_ (deliver_moves _ _ _)
      exact setDrive_moves s d (cutRecord (getDrive s d)) rfl id
        (fun form => ⟨form.offIdle, form.holdHeld, form.loopOnly, form.creepOnly, Nat.not_le.mp many⟩) id

/-- A boundary keeps the record in form: the shadow is within its bound and 0 on a bridge that is off (R148, R149). -/
theorem driveSafe_boundaryRecord {r : Drive} (h : DriveSafe r) : DriveSafe (boundaryRecord r) where
  offIdle off := by
    obtain ⟨shadow, -, -⟩ := h.offIdle off
    simp [boundaryRecord, shadow]
  holdHeld := h.holdHeld
  loopOnly := h.loopOnly
  creepOnly := h.creepOnly
  cutBound := by
    have bound := h.cutBound
    unfold boundaryRecord
    dsimp only
    split <;> omega

theorem driveBoundary_moves (d : DriveId) (line : Bool) : Moves s (driveBoundary d line s) := by
  have begun : Moves s (setDrive d (boundaryRecord (getDrive s d)) s) :=
    setDrive_moves s d _ rfl (fun within => ⟨within.1, within.1⟩) driveSafe_boundaryRecord id
  unfold driveBoundary
  dsimp only
  split
  · exact begun.trans (cutPeriod_moves _ d)
  · exact begun

theorem beginPeriod_moves (toc soc : Bool) : Moves s (beginPeriod toc soc s) :=
  (Move.pins s { s.pins with toc := toc, soc := soc }).moves.tail (Move.grids _ (now s) s.drives.latestLoop)

theorem beginLoop_moves : Moves s (beginLoop s) := (Move.grids s s.drives.periodStart (now s)).moves

theorem saturationTest_moves (d : DriveId) (full : Bool) (loops : (getDrive s d).mode = .hold ∨ (getDrive s d).mode = .run) :
    Moves s (saturationTest d full s) := by
  rw [saturationTest_eq]
  exact putDrive_moves s d _ id (fun form => ⟨form.offIdle, form.holdHeld, fun _ => loops, form.creepOnly, form.cutBound⟩) id

theorem trackingTest_moves (d : DriveId) (full : Bool) (e : Int)
    (loops : (getDrive s d).mode = .hold ∨ (getDrive s d).mode = .run) : Moves s (trackingTest d full e s) := by
  have marks (t : Option Time) : Moves s (setDrive d { getDrive s d with satStart := t } s) :=
    setDrive_moves s d _ rfl id (fun form => ⟨form.offIdle, form.holdHeld, fun _ => loops, form.creepOnly, form.cutBound⟩) id
  unfold trackingTest
  split
  · split
    · exact marks _
    · split
      · exact faultDrive_moves s d _ _
      · exact .refl
  · exact marks none

theorem loopComputation_moves (d : DriveId) (a : Int) (loops : (getDrive s d).mode = .hold ∨ (getDrive s d).mode = .run) :
    Moves s (loopComputation d a s) := by
  have idle (off : (getDrive s d).mode = .off ∨ (getDrive s d).mode = .fault) : False := by
    obtain l | l := loops <;> simp [l] at off
  unfold loopComputation
  dsimp only
  refine .trans (.trans ?_ (saturationTest_moves _ d _ ?_)) (trackingTest_moves _ d _ _ ?_)
  · exact setDrive_moves s d _ rfl (fun within => ⟨natAbs_clampSym_le _ _, within.2⟩)
      (fun form => ⟨fun off => (idle off).elim, form.holdHeld, fun _ => loops, form.creepOnly, form.cutBound⟩) id
  · rw [getDrive_setDrive]; exact loops
  · rw [saturationTest_eq, getDrive_putDrive, getDrive_setDrive]; exact loops

theorem absentAngleStep_moves (d : DriveId) (loops : (getDrive s d).mode = .hold ∨ (getDrive s d).mode = .run) :
    Moves s (absentAngleStep d s) := by
  have idle (off : (getDrive s d).mode = .off ∨ (getDrive s d).mode = .fault) : False := by
    obtain l | l := loops <;> simp [l] at off
  unfold absentAngleStep
  rw [endSaturation_setDrive_eq]
  · exact putDrive_moves s d _ (fun within => ⟨Nat.zero_le _, within.2⟩)
      (fun form => ⟨fun off => (idle off).elim, form.holdHeld, fun _ => loops, form.creepOnly, form.cutBound⟩) id
  · rfl

theorem driveLoop_moves (d : DriveId) : Moves s (driveLoop d s) := by
  have looped (loops : (getDrive s d).mode = .hold ∨ (getDrive s d).mode = .run) :
      Moves s (match angle s (driveChannel d) with
        | some a => loopComputation d a s
        | none => absentAngleStep d s) := by
    split
    · exact loopComputation_moves s d _ loops
    · exact absentAngleStep_moves s d loops
  unfold driveLoop
  dsimp only
  split
  · next run => exact looped (.inr run)
  · next hold => exact looped (.inl hold)
  · next creep =>
    exact setDrive_moves s d _ rfl (fun within => ⟨natAbs_creepDuty_le s d, within.2⟩)
      (fun form => ⟨fun off => by simp [creep] at off, form.holdHeld, form.loopOnly, form.creepOnly, form.cutBound⟩) id
  · exact .refl
  · exact .refl

theorem creepTimeoutTaken_moves (d : DriveId) : Moves s (creepTimeoutTaken d s) := by
  unfold creepTimeoutTaken
  split
  · exact ((homingTimeout_moves s _).trans (commandOff_moves _ d)).trans (homingCheck_moves _)
  · exact .refl

/-- The creep timer stopped (R157). -/
theorem stopCreep_moves (d : DriveId) : Moves s (setDrive d { getDrive s d with creepTimer := none } s) :=
  setDrive_moves s d _ rfl id (fun form => ⟨form.offIdle, form.holdHeld, form.loopOnly, by simp, form.cutBound⟩) id

theorem clearDrive_moves (d : DriveId) : Moves s (clearDrive d s) := by
  unfold clearDrive
  split
  · next fault =>
    refine setDrive_moves s d _ rfl (fun _ => ⟨Nat.zero_le _, Nat.zero_le _⟩) (fun form => ?_) (fun run => by simp at run)
    obtain ⟨ePrev, satStart, saturated⟩ := form.no_loop (by simp [fault])
    have hold := form.no_hold (by simp [fault])
    have creep := form.no_creep (by simp [fault])
    exact ⟨by simp, by simp [hold], by simp [ePrev, satStart, saturated], by simp [creep], by simp⟩
  · exact .refl

end Sys2Proof.Machine
end

section
/-! The commands of the wheels, the time base, the motion intake, the law engine and the counters, each a run of moves. -/

namespace Sys2Proof.Machine

variable (s : State)

/-! ### Wheels (R102 to R118) -/

theorem allStoppedStep_moves : Moves s (allStoppedStep s) := by
  unfold allStoppedStep
  split
  · exact (Move.slip s false).moves.tail (Move.run _ none)
  · exact .refl

theorem makeInvalid_moves (w : WheelId) : Moves s (makeInvalid w s) := by
  refine .trans (.tail (Move.wheel s w _ fun _ => ?_).moves (Move.run _ none)) (faultReport_moves _ _ _ _)
  exact ⟨by simp, by simp, by simp⟩

theorem invalidTest_moves (w : WheelId) : Moves s (invalidTest w s) := by
  unfold invalidTest
  split
  · exact makeInvalid_moves s w
  · exact .refl

theorem evaluate_moves : Moves s (evaluate s) := (Move.run s _).moves.tail (Move.slip _ _)

theorem followOn_moves (w : WheelId) : Moves s (followOn w s) := by
  have tested := (invalidTest_moves s (otherWheels w).1).trans (invalidTest_moves _ (otherWheels w).2)
  unfold followOn
  dsimp only
  split
  · exact tested.trans (evaluate_moves _)
  · exact tested

theorem wheelEdgeStep_moves (w : WheelId) : Moves s (wheelEdgeStep w s) := by
  unfold wheelEdgeStep
  split
  · refine .trans ?_ (followOn_moves _ w)
    exact (Move.wheel s w ⟨.rolling, now s, none, 0⟩ fun _ => ⟨by simp, by simp, by simp⟩).moves
  · split
    · exact deliver_moves s _ _
    · refine .trans ?_ (followOn_moves _ w)
      exact (Move.wheel s w ⟨.rolling, now s, some (elapsed (getWheel s w).lastEdge (now s)),
        wheelSpeed (par s) w (elapsed (getWheel s w).lastEdge (now s))⟩
        fun _ => ⟨by simp, by simp, Nat.min_le_left _ _⟩).moves
  · exact .refl

theorem stopWheel_moves (w : WheelId) : Moves s (stopWheel w s) := by
  refine .trans ?_ (allStoppedStep_moves _)
  exact (Move.wheel s w { getWheel s w with state := .stopped, lastPeriod := none, lastSpeed := 0 }
    fun _ => ⟨by simp, by simp, by simp⟩).moves

theorem clearWheel_moves (w : WheelId) : Moves s (clearWheel w s) := by
  unfold clearWheel
  split
  · exact (Move.wheel s w ⟨.stopped, now s, none, 0⟩ fun _ => ⟨by simp, by simp, by simp⟩).moves
  · exact .refl

theorem clearWheels_moves : Moves s (clearWheels s) :=
  (((clearWheel_moves s .fl).trans (clearWheel_moves _ .fr)).trans (clearWheel_moves _ .rr)).trans (allStoppedStep_moves _)

/-! ### The time base (R122 to R131) -/

theorem changeTimeBase_moves (t : TimeBase) (form : TimeBaseSafe s.timeBase → TimeBaseSafe t) :
    Moves s (changeTimeBase t s) := by
  refine .trans (Move.timeBase s t form).moves ?_
  show Moves _ (noteSync _ _)
  unfold noteSync
  split
  · exact .refl
  · exact postTimebaseNotice_moves _ _

theorem enterUnsynced_moves : Moves s (enterUnsynced s) :=
  changeTimeBase_moves s _ fun _ => ⟨by simp, by simp, by simp, by simp, by simp⟩

theorem startGrid_moves : Moves s (startGrid s) :=
  changeTimeBase_moves s _ fun _ => ⟨by simp [markBoundary], by simp [markBoundary], by simp [markBoundary],
    by simp [markBoundary], by simp [markBoundary]⟩

theorem timeBaseSafe_afterGood {t : TimeBase} (h : TimeBaseSafe t) : TimeBaseSafe (afterGood t) := by
  unfold afterGood
  dsimp only
  split
  · exact h
  · next syncing =>
    have runs := h.syncing syncing
    split
    · constructor <;> simp [advanceFrame, markBoundary]
    · constructor <;> simp [advanceFrame, markBoundary, syncing]
      omega
  · next locked =>
    have runs := h.locked locked
    constructor <;> simp [advanceFrame, markBoundary, locked]
    omega
  · next holdover =>
    have runs := h.holdover holdover
    split
    · constructor <;> simp [advanceFrame, markBoundary]
    · constructor <;> simp [advanceFrame, markBoundary, holdover]
      omega

theorem timeBaseSafe_afterEarly {t : TimeBase} (h : TimeBaseSafe t) : TimeBaseSafe (afterEarly t) := by
  unfold afterEarly
  split
  · exact h
  · next syncing =>
    have runs := h.syncing syncing
    constructor <;> simp [markBoundary, syncing]
    omega
  · exact h
  · next holdover =>
    have grid := h.grid
    have runs := h.holdover holdover
    exact ⟨grid, by simp [holdover], by simp [holdover], by simp [holdover], by simp [runs.2]⟩

theorem strobeStep_moves : Moves s (strobeStep s) := by
  unfold strobeStep
  split
  · exact startGrid_moves s
  · exact startGrid_moves s
  · split
    · exact (changeTimeBase_moves s _ timeBaseSafe_afterEarly).trans (deliver_moves _ _ _)
    · exact (changeTimeBase_moves s _ timeBaseSafe_afterGood).trans (deliver_moves _ _ _)

theorem missedStep_moves : Moves s (missedStep s) := by
  unfold missedStep
  dsimp only
  split
  · exact .refl
  · exact enterUnsynced_moves s
  · next locked =>
    split
    · refine changeTimeBase_moves s _ fun _ => ?_
      constructor <;> simp [advanceFrame, markBoundary]
    · next few =>
      refine changeTimeBase_moves s _ fun form => ?_
      have runs := form.locked locked
      constructor <;> simp [advanceFrame, markBoundary, locked]
      omega
  · next holdover =>
    split
    · next few =>
      refine changeTimeBase_moves s _ fun form => ?_
      constructor <;> simp [advanceFrame, markBoundary, holdover]
      omega
    · exact enterUnsynced_moves s

theorem gridParameterChanged_moves : Moves s (gridParameterChanged s) := by
  unfold gridParameterChanged
  split
  · exact .refl
  · exact enterUnsynced_moves s

/-- The alignment of the frame count (R130). -/
theorem align_moves (n : Half) (synced : s.timeBase.sync ≠ .unsynced) :
    Moves s { s with timeBase := { s.timeBase with frameCount := n, aligned := true } } :=
  (Move.timeBase s { s.timeBase with frameCount := n, aligned := true } fun form =>
    ⟨form.grid, fun unsynced => absurd unsynced synced, form.syncing, form.locked, form.holdover⟩).moves

/-! ### The motion intake (R132 to R143) -/

/-- A change of the intake without a change of quality writes it alone (R138). -/
theorem changeIntake_of_same (i : Intake) (same : qualityOf i = quality s) : changeIntake i s = { s with intake := i } :=
  if_pos same

theorem freshnessStep_moves (kind : RollKind) : Moves s (freshnessStep kind s) :=
  (Move.intake s { s.intake with latestRoll := some kind, deadline := some (after (now s) 20000) } rfl
    (fun form => ⟨form.mismatchBound, form.matchBound, form.oneRun⟩) id).moves

/-- An intake written with its quality and its yaw slip as they are. -/
theorem putIntake_moves (i : Intake) (same : qualityOf i = quality s) (yaw : i.yawSlip = s.intake.yawSlip)
    (form : IntakeSafe s.intake → IntakeSafe i)
    (camber : s.intake.cEst.natAbs ≤ (par s).camberLimit → i.cEst.natAbs ≤ (par s).camberLimit) :
    Moves s { s with intake := i } := by
  rw [← changeIntake_of_same s i same]
  exact (Move.intake s i yaw form camber).moves

theorem natAbs_camberAfter_le (limit : Nat) (cEst cMeas : Int) : (camberAfter limit cEst cMeas).natAbs ≤ limit :=
  natAbs_clampSym_le limit _

/-- The camber estimate written (R139). -/
def setCamber (v : Int) (s : State) : State := { s with intake := { s.intake with cEst := v } }

theorem setCamber_moves (v : Int) (within : v.natAbs ≤ (par s).camberLimit) : Moves s (setCamber v s) :=
  putIntake_moves s { s.intake with cEst := v } rfl rfl
    (fun form => ⟨form.mismatchBound, form.matchBound, form.oneRun⟩) fun _ => within

theorem camberStep_moves (roll : Int) : Moves s (camberStep roll s) := by
  unfold camberStep
  cases angle s .tilt with
  | none => exact .refl
  | some lambdaM => exact setCamber_moves s _ (natAbs_camberAfter_le _ _ _)

theorem yawVerdict_moves (mismatch : Bool) : Moves s (yawVerdict mismatch s) := by
  have counts (m n : Nat) (mBound : m ≤ 3) (nBound : n ≤ 3) (one : m = 0 ∨ n = 0) :
      Moves s { s with intake := { s.intake with mismatchRun := m, matchRun := n } } :=
    putIntake_moves s { s.intake with mismatchRun := m, matchRun := n } rfl rfl (fun _ => ⟨mBound, nBound, one⟩) id
  unfold yawVerdict
  dsimp only
  split
  · have counted := counts (min 3 (s.intake.mismatchRun + 1)) 0 (Nat.min_le_left _ _) (Nat.zero_le _) (.inr rfl)
    split
    · exact counted.tail (Move.yawSlip _ true)
    · exact counted
  · have counted := counts 0 (min 3 (s.intake.matchRun + 1)) (Nat.zero_le _) (Nat.min_le_left _ _) (.inl rfl)
    split
    · exact counted.tail (Move.yawSlip _ false)
    · exact counted

theorem yawCheck_moves (yaw : Int) : Moves s (yawCheck yaw s) := by
  unfold yawCheck
  split
  · split
    · exact yawVerdict_moves s _
    · exact .refl
  · exact .refl

theorem takeRoll_moves (kind : RollKind) (roll : Option Int) : Moves s (takeRoll kind roll s) := by
  cases roll with
  | none => exact .refl
  | some v => exact (freshnessStep_moves s kind).trans (camberStep_moves _ v)

theorem takeYaw_moves (yaw : Option Int) : Moves s (takeYaw yaw s) := by
  cases yaw with
  | none => exact .refl
  | some v => exact yawCheck_moves s v

theorem takeAccepted_moves (kind : RollKind) (r : Report) : Moves s (takeAccepted kind r s) :=
  (takeRoll_moves s kind r.roll).trans (takeYaw_moves _ r.yaw)

theorem takeMotion_moves (payload : List Byte) : Moves s (takeMotion payload s) := by
  unfold takeMotion
  split
  · exact deliver_moves s _ _
  · split
    · exact ((deliver_moves s _ _).trans (deliverAge_moves _ _)).trans (takeAccepted_moves _ _ _)
    · exact (deliver_moves s _ _).trans (takeAccepted_moves _ _ _)
    · exact deliver_moves s _ _
    · exact deliver_moves s _ _

theorem loseFreshness_moves : Moves s (loseFreshness s) :=
  (Move.intake s { s.intake with deadline := none, mismatchRun := 0, matchRun := 0 } rfl
    (fun _ => ⟨Nat.zero_le _, Nat.zero_le _, .inl rfl⟩) id).moves.tail (Move.yawSlip _ false)

/-! ### The law engine (R5, R6, R23, R25, R74, R77) -/

/-- LAW_CLAMP is told while a lean flag is set (R27). -/
def tellLawClamp (f : LeanFlags) (s : State) : State :=
  if f.accel || f.limit || f.rate then deliver .lawClamp (maskOf [f.accel, f.limit, f.rate]) s else s

/-- STEER_CLAMP is told while a steer flag is set (R77). -/
def tellSteerClamp (g : SteerFlags) (s : State) : State :=
  if g.range || g.rate then deliver .steerClamp (maskOf [g.range, g.rate]) s else s

theorem tellLawClamp_moves (f : LeanFlags) : Moves s (tellLawClamp f s) := by
  unfold tellLawClamp
  split
  · exact deliver_moves s _ _
  · exact .refl

theorem tellSteerClamp_moves (g : SteerFlags) : Moves s (tellSteerClamp g s) := by
  unfold tellSteerClamp
  split
  · exact deliver_moves s _ _
  · exact .refl

/-- The law record written alone. -/
def setLaw (l : Law) (s : State) : State := { s with law := l }

theorem setLaw_writesBeside (l : Law) : WriteBeside (setLaw l) s := ⟨fun _ => rfl, rfl⟩

theorem tellLawClamp_setLaw (f : LeanFlags) (l : Law) : tellLawClamp f (setLaw l s) = setLaw l (tellLawClamp f s) := by
  unfold tellLawClamp
  split
  · exact deliver_comm _ _ (setLaw_writesBeside s l)
  · rfl

@[simp] theorem tellLawClamp_frame (f : LeanFlags) :
    (tellLawClamp f s).pending = s.pending ∧ (tellLawClamp f s).pins = s.pins ∧ (tellLawClamp f s).timeBase = s.timeBase ∧
    (tellLawClamp f s).intake = s.intake ∧ (tellLawClamp f s).channels = s.channels ∧ (tellLawClamp f s).wheels = s.wheels ∧
    (tellLawClamp f s).law = s.law ∧ (tellLawClamp f s).regime = s.regime ∧ (tellLawClamp f s).drives = s.drives ∧
    (tellLawClamp f s).store = s.store := by
  unfold tellLawClamp
  split <;> simp

@[simp] theorem tellSteerClamp_frame (g : SteerFlags) :
    (tellSteerClamp g s).pending = s.pending ∧ (tellSteerClamp g s).pins = s.pins ∧ (tellSteerClamp g s).timeBase = s.timeBase ∧
    (tellSteerClamp g s).intake = s.intake ∧ (tellSteerClamp g s).channels = s.channels ∧ (tellSteerClamp g s).wheels = s.wheels ∧
    (tellSteerClamp g s).law = s.law ∧ (tellSteerClamp g s).regime = s.regime ∧ (tellSteerClamp g s).drives = s.drives ∧
    (tellSteerClamp g s).store = s.store := by
  unfold tellSteerClamp
  split <;> simp

theorem putLaw_eq (l : Law) :
    putLaw l s =
      if l.flags.limit = s.law.flags.limit then setLaw l s else deliverLeanLimited l.flags.limit (setLaw l s) := by
  unfold putLaw tellLimited
  split
  · rfl
  · exact (deliverConditions_comm _ (setLaw_writesBeside s l)).symm

/-- The reports of a computation beside the write of its record: the record is written as LEAN_LIMITED is told (R27, R28,
R77). -/
theorem reportClamps_eq (l : Law) (g : SteerFlags) :
    reportClamps s.law.flags.limit l.flags g (setLaw l s) = tellSteerClamp g (putLaw l (tellLawClamp l.flags s)) := by
  have law : (tellLawClamp l.flags s).law = s.law := by simp
  rw [putLaw_eq, law, ← tellLawClamp_setLaw]
  rfl

theorem length_pushBar_le {ring : List Int} (b : Int) (bound : ring.length ≤ 6) : (pushBar ring b).length ≤ 6 := by
  unfold pushBar
  split
  · simp; omega
  · simp; omega

/-- Moving toward a value within a bound stays within it (R20, R71). -/
theorem natAbs_moveToward_le {u step : Nat} {a b : Int} (from_ : a.natAbs ≤ u) (to_ : b.natAbs ≤ u) :
    (moveToward step a b).1.natAbs ≤ u := by
  unfold moveToward
  repeat' split
  all_goals
    dsimp only
    omega

theorem natAbs_trackedSteer_le (m : Option Int) (u : Nat) : (trackedSteer m u).natAbs ≤ u := by
  cases m with
  | none => exact Nat.zero_le _
  | some v => exact natAbs_clampSym_le _ _

theorem natAbs_steerTarget_le (r : Regime) (mode : DriveMode) (step u : Nat) {a b : Int} (m : Option Int)
    (from_ : a.natAbs ≤ u) (to_ : b.natAbs ≤ u) : (steerTarget r mode step u a b m).1.natAbs ≤ u := by
  unfold steerTarget
  split
  · exact natAbs_moveToward_le from_ to_
  · exact natAbs_trackedSteer_le _ _

/-- What the computation of this expiry makes (R6). -/
def lawResult (s : State) : LawResult := computeLaw (readInputs s) s.store.working s.law.phiT s.law.deltaT

/-- The law record that the computation of this expiry leaves (R5, R6). -/
def lawRecord (s : State) : Law := lawAfter s.law (readInputs s) (lawResult s) (after (now s) 2000)

/-- The sample of this expiry (R6). -/
def lawSample (s : State) : Sample :=
  ⟨speedNow s, (selectedSpeed s).isNone, barRate (lawRecord s).ring (readInputs s).bar.b⟩

/-- A law computation writes its record, tells of its clamps, and hands its sample to the regime controller (R6). -/
theorem lawStep_eq :
    lawStep s =
      takeSample (lawSample s)
        (tellSteerClamp (lawResult s).steerFlags (putLaw (lawRecord s) (tellLawClamp (lawRecord s).flags s))) := by
  rw [← reportClamps_eq]
  rfl

theorem lawStep_moves : Moves s (lawStep s) := by
  rw [lawStep_eq]
  refine .trans (.trans (.tail (tellLawClamp_moves s (lawRecord s).flags) ?_) (tellSteerClamp_moves _ _))
    (takeSample_moves _ _ (speedNow_le s))
  have params : par (tellLawClamp (lawRecord s).flags s) = par s := by simp [par]
  have law : (tellLawClamp (lawRecord s).flags s).law = s.law := by simp
  refine Move.law _ _ ?_ ?_ ?_
  · rw [params]
    exact fun _ => natAbs_clampSym_le _ _
  · rw [params, law]
    exact fun within => natAbs_steerTarget_le _ _ _ _ _ within (natAbs_clampSym_le _ _)
  · rw [law]
    exact length_pushBar_le _

/-- The target-set request of RIDE (R22, R75). -/
theorem targetSet_moves : Moves s (targetSet s) :=
  putLaw_same_moves s (targetSet s).law rfl (fun _ => natAbs_clampSym_le _ _) (fun _ => natAbs_trackedSteer_le _ _) id

/-! ### Counter requests (R183, R186) -/

/-- A configuration COUNTER_SET stores is in form: its threshold fits and its mode is one of its event (R170, R183). -/
theorem checkConfig_form {event mask mode : Byte} {threshold : Word32} {action : Byte} {config : CounterConfig}
    (stores : checkConfig event mask mode threshold action = some config) :
    config.threshold ≤ counterMax ∧ ∀ e, config.event = some e → modeValid config.mode e = true := by
  have bound : threshold.toNat ≤ counterMax := Nat.le_of_lt_succ threshold.isLt
  unfold checkConfig at stores
  split at stores
  · split at stores
    · cases stores
      exact ⟨Nat.zero_le _, fun e named => by simp at named⟩
    · contradiction
  · split at stores
    · next e m a _ _ _ =>
      split at stores
      · contradiction
      · next fits =>
        cases stores
        refine ⟨bound, fun e' named => ?_⟩
        cases named
        simpa using (not_or.mp fits).1
    · contradiction

theorem counterSafe_configured {event mask mode : Byte} {threshold : Word32} {action : Byte} {config : CounterConfig}
    (stores : checkConfig event mask mode threshold action = some config) (t : Conditions) (time : Time) :
    CounterSafe t (configured config t time) where
  valueBound := Nat.zero_le _
  thresholdBound := (checkConfig_form stores).1
  reachedHeld held := by simp [configured] at held
  modeFits := (checkConfig_form stores).2
  none _ := ⟨rfl, rfl⟩
  markHeld := by
    unfold configured
    dsimp only
    split <;> simp_all

theorem counterSafe_cleared {t : Conditions} {c : Counter} (h : CounterSafe t c) (time : Time) :
    CounterSafe t (clearedCounter time c) where
  valueBound := Nat.zero_le _
  thresholdBound := h.thresholdBound
  reachedHeld held := by simp [clearedCounter] at held
  modeFits := h.modeFits
  none _ := ⟨rfl, rfl⟩
  markHeld := by
    have held := h.markHeld
    unfold clearedCounter
    dsimp only
    split <;> simpa using held

theorem clearNamed_moves (mask : Byte) : Moves s (clearNamed mask s) := by
  refine (Move.counters s (clearNamed mask s).counters rfl fun safe => ?_).moves
  rw [countersSafe_iff] at safe ⊢
  intro i
  rw [clearNamed_counters]
  split
  · exact counterSafe_cleared (safe i) _
  · exact safe i

end Sys2Proof.Machine
end

section
/-! The calibration store: what a write or a load may put in force, the effects of a change in the other blocks, and the
operations of the store, each a run of moves. -/

namespace Sys2Proof.Machine

variable (s : State)

/-! ### Parameters (R210 to R212) -/

theorem getParam_setParam (c : Params) (p q : Param) (v : Nat) :
    getParam (setParam c p v) q = if q = p then v else getParam c q := by
  cases p <;> cases q <;> rfl

/-- A clamped value is one the parameter may hold (R210, R211). -/
theorem inRange_clampParam (p : Param) (v : Nat) : inRange p (clampParam p v) := by
  have rows : (paramRow p).lo ≤ (paramRow p).hi := by cases p <;> decide
  unfold inRange clampParam
  split
  · next zero => exact .inr ⟨zero.1, rfl⟩
  · left
    omega

/-- Every parameter is in its range (R210). -/
def RangesHold (c : Params) : Prop := ∀ p, inRange p (getParam c p)

theorem RangesHold.setParam {c : Params} (h : RangesHold c) {p : Param} {v : Nat} (fits : inRange p v) :
    RangesHold (setParam c p v) := by
  intro q
  rw [getParam_setParam]
  split
  · next same => exact same ▸ fits
  · exact h q

theorem inRange_of_row {p : Param} {v : Nat} (h : inRange p v) (other : p ≠ .reportPeriod) :
    (paramRow p).lo ≤ v ∧ v ≤ (paramRow p).hi :=
  h.resolve_right fun zero => other zero.1

/-- The cross-constraints keep every range: V_FREE and V_PARK stay within their own rows (R210, R212). -/
theorem RangesHold.crossConstrain {c : Params} (h : RangesHold c) : RangesHold (crossConstrain c) := by
  obtain ⟨lockLo, lockHi⟩ : 50 ≤ c.vLock ∧ c.vLock ≤ 500 := inRange_of_row (h .vLock) (by simp)
  obtain ⟨freeLo, freeHi⟩ : 100 ≤ c.vFree ∧ c.vFree ≤ 800 := inRange_of_row (h .vFree) (by simp)
  obtain ⟨parkLo, parkHi⟩ : 10 ≤ c.vPark ∧ c.vPark ≤ 100 := inRange_of_row (h .vPark) (by simp)
  have constrained : Machine.crossConstrain c =
      Machine.setParam (Machine.setParam c .vFree (max c.vFree (c.vLock + 50))) .vPark (min c.vPark (c.vLock - 20)) := rfl
  rw [constrained]
  refine (h.setParam (.inl ?_)).setParam (.inl ?_)
  · simp only [paramRow]
    omega
  · simp only [paramRow]
    omega

theorem crossConstrain_free (c : Params) : (crossConstrain c).vLock + 50 ≤ (crossConstrain c).vFree := Nat.le_max_right _ _

theorem crossConstrain_park {c : Params} (h : RangesHold c) : (crossConstrain c).vPark + 20 ≤ (crossConstrain c).vLock := by
  obtain ⟨lockLo, -⟩ : 50 ≤ c.vLock ∧ c.vLock ≤ 500 := inRange_of_row (h .vLock) (by simp)
  simp only [crossConstrain]
  omega

/-- Constrained parameters with a map in form make a calibration the store may hold (R210, R212, R215). -/
theorem calibrationSafe_crossConstrain {c : Params} (h : RangesHold c) {m : Vector MapPoint 9}
    (ranges : ∀ p ∈ m.toList, p.speed ≤ 2000 ∧ p.kc ≤ 5000 ∧ p.kcs ≤ 2000 ∧ p.lmax ≤ 4254) (ordered : mapOrdered m = true) :
    CalibrationSafe ⟨crossConstrain c, m⟩ :=
  ⟨h.crossConstrain, crossConstrain_free c, crossConstrain_park h, ranges, ordered⟩

/-- A write of one parameter keeps the calibration in form (R211, R212). -/
theorem calibrationSafe_writeParam {c : Calibration} (h : CalibrationSafe c) (p : Param) (v : Nat) :
    CalibrationSafe { c with params := writeParam c.params p v } :=
  calibrationSafe_crossConstrain (RangesHold.setParam h.ranges (inRange_clampParam p v)) h.mapRanges h.ordered

/-- A clamped point is one the map may hold (R215). -/
theorem clampPoint_ranges (p : MapPoint) :
    (clampPoint p).speed ≤ 2000 ∧ (clampPoint p).kc ≤ 5000 ∧ (clampPoint p).kcs ≤ 2000 ∧ (clampPoint p).lmax ≤ 4254 :=
  ⟨Nat.min_le_right _ _, Nat.min_le_right _ _, Nat.min_le_right _ _, Nat.min_le_right _ _⟩

theorem calibrationSafe_setPoint {c : Calibration} (h : CalibrationSafe c) (i : Nat) (inside : i < 9) (p : MapPoint)
    (ordered : mapOrdered (c.map.set i (clampPoint p)) = true) :
    CalibrationSafe { c with map := c.map.set i (clampPoint p) } := by
  refine ⟨h.ranges, h.freeAboveLock, h.parkBelowLock, fun q mem => ?_, ordered⟩
  have member : q ∈ c.map.set i (clampPoint p) inside := Vector.mem_toList_iff.mp mem
  obtain old | rfl := Vector.mem_or_eq_of_mem_set member
  · exact h.mapRanges q (Vector.mem_toList_iff.mpr old)
  · exact clampPoint_ranges p

theorem rangesHold_default : RangesHold defaultParams := by
  intro p
  cases p <;> exact .inl (by decide)

theorem calibrationSafe_default : CalibrationSafe defaultCalibration :=
  ⟨rangesHold_default, by decide, by decide, by decide, by decide⟩

theorem RangesHold.applyTuple {c : Params} (h : RangesHold c) (t : Byte × Half) : RangesHold (applyTuple c t) := by
  unfold Machine.applyTuple
  split
  · exact h
  · exact h.setParam (inRange_clampParam _ _)

theorem RangesHold.applyTuples {c : Params} (h : RangesHold c) (ts : List (Byte × Half)) :
    RangesHold (ts.foldl Machine.applyTuple c) := by
  induction ts generalizing c with
  | nil => exact h
  | cons t ts ih => exact ih (h.applyTuple t)

/-- A loaded body in map order gives a calibration the store may hold (R219). -/
theorem calibrationSafe_bodyCalibration {body : List Byte} (ordered : mapOrdered (bodyMap body) = true) :
    CalibrationSafe (bodyCalibration body) := by
  refine calibrationSafe_crossConstrain (rangesHold_default.applyTuples _) (fun p mem => ?_) ordered
  simp only [bodyMap, Vector.toList_mk, List.mem_cons, List.not_mem_nil, or_false] at mem
  obtain rfl | rfl | rfl | rfl | rfl | rfl | rfl | rfl | rfl := mem <;> exact clampPoint_ranges _

/-! ### The effects of a change (R24, R76, R140, R150, R213) -/

/-- An effect taken where two values differ. -/
theorem effectIf_ne (old new : Nat) (f : State → State) :
    effectIf (decide (old ≠ new)) f s = if old = new then s else f s := by
  unfold effectIf
  by_cases same : old = new <;> simp [same]

/-- The four limits' effects together are the state retuned (R24, R76, R140, R150). -/
theorem limits_changed (c : Calibration) :
    effectIf (decide (getParam (par s) .camberLimit ≠ getParam c.params .camberLimit)) camberLimitChanged
      (effectIf (decide (getParam (par s) .uMax ≠ getParam c.params .uMax)) uMaxChanged
        (effectIf (decide (getParam (par s) .steerLimit ≠ getParam c.params .steerLimit)) clampDelta
          (effectIf (decide (getParam (par s) .tiltLimit ≠ getParam c.params .tiltLimit)) clampLambda
            (setWorking c s)))) = retuned c s := by
  rw [effectIf_ne, effectIf_ne, effectIf_ne, effectIf_ne]
  simp only [getParam, retuned]
  by_cases tilt : (par s).tiltLimit = c.params.tiltLimit <;>
    by_cases steer : (par s).steerLimit = c.params.steerLimit <;>
    by_cases uMax : (par s).uMax = c.params.uMax <;>
    by_cases camber : (par s).camberLimit = c.params.camberLimit <;>
    simp only [tilt, steer, uMax, camber, if_true, if_false] <;> rfl

theorem effectIf_moves {t : State} (b : Bool) {f : State → State} (moves : ∀ u, Moves u (f u)) (before : Moves s t) :
    Moves s (effectIf b f t) := by
  unfold effectIf
  split
  · exact before.trans (moves t)
  · exact before

theorem reportPeriodChanged_moves : Moves s (reportPeriodChanged s) :=
  (Move.link s (reportPeriodChanged s).link ⟨rfl, rfl, rfl, rfl, fun idle => ⟨rfl, fun t => by
    obtain ⟨a, b, c, d, e, f, g⟩ := idle t
    exact ⟨a, b, c, d, e, f, g⟩⟩⟩).moves

/-- What is passed on beside the limits: timers, channels, range checks (R98, R100, R131, R200). -/
def passOn (old new : Params) (written : Option Param) (s : State) : State :=
  let changed (p : Param) : Bool := decide (getParam old p ≠ getParam new p)
  let taken := effectTaken old new written
  let timers := effectIf (taken .framePeriod || taken .strobeWindow) gridParameterChanged
    (effectIf (taken .reportPeriod) reportPeriodChanged s)
  let unhomed := effectIf (taken .cprBar) (unhomeChannel .bar) (effectIf (taken .cprSteer) (unhomeChannel .steer)
    (effectIf (taken .cprTilt) (unhomeChannel .tilt) timers))
  effectIf (changed .steerLimit) (rangeCheck .steer) (effectIf (changed .tiltLimit) (rangeCheck .tilt) unhomed)

/-- A calibration takes the place of the working one: the limited values are brought within its limits, then the other changes
are passed on (R213, R219). -/
theorem replaceWorking_eq (c : Calibration) (written : Option Param) :
    replaceWorking c written s = passOn (par s) c.params written (retuned c s) := by
  rw [← limits_changed]
  rfl

theorem passOn_moves (old new : Params) (written : Option Param) : Moves s (passOn old new written s) := by
  have timers : Moves s (effectIf (effectTaken old new written .framePeriod || effectTaken old new written .strobeWindow)
      gridParameterChanged (effectIf (effectTaken old new written .reportPeriod) reportPeriodChanged s)) :=
    effectIf_moves s _ gridParameterChanged_moves (effectIf_moves s _ reportPeriodChanged_moves .refl)
  exact effectIf_moves s _ (rangeCheck_moves · .steer) (effectIf_moves s _ (rangeCheck_moves · .tilt)
    (effectIf_moves s _ (unhomeChannel_moves · .bar) (effectIf_moves s _ (unhomeChannel_moves · .steer)
      (effectIf_moves s _ (unhomeChannel_moves · .tilt) timers))))

theorem replaceWorking_moves (c : Calibration) (written : Option Param)
    (form : CalibrationSafe s.store.working → CalibrationSafe c) : Moves s (replaceWorking c written s) := by
  rw [replaceWorking_eq]
  exact (Move.retune s c form).moves.trans (passOn_moves _ _ _ _)

/-! ### Operations of the store (R216 to R223) -/

theorem setStore_moves (t : Store) (params : t.working.params = par s) (form : StoreSafe s.store → StoreSafe t) :
    Moves s (setStore t s) := (Move.store s t params form).moves

theorem endOperation_moves (result : StoreResult) : Moves s (endOperation result s) := by
  refine .trans ?_ (postStoreNotice_moves _ _)
  refine setStore_moves s _ rfl fun form => ?_
  have idle : stateAfter result ≠ .loading ∧ stateAfter result ≠ .saving := by cases result <;> simp [stateAfter]
  exact ⟨by simp [idle], by simp [idle], by simp [idle], by simp, by simp [idle], by simp [idle], by simp, form.workingSafe,
    by simp⟩

theorem completeLoad_moves (result : StoreResult) (loaded : Option Calibration)
    (form : ∀ c, loaded = some c → CalibrationSafe c) : Moves s (completeLoad result loaded s) := by
  cases loaded with
  | none => exact endOperation_moves s result
  | some c => exact (replaceWorking_moves s c none fun _ => form c rfl).trans (endOperation_moves _ result)

/-- A step of the same kind that is no poll follows (R217, R223). -/
theorem goToStep_moves {old new : StoreStep} (stands : s.store.step = some old) (poll : isPollStep new = false)
    (kind : isLoadStep old = isLoadStep new) : Moves s (goToStep new s) := by
  refine setStore_moves s _ rfl fun form => ⟨form.loading, form.saving, form.snapshotHeld, fun idle => ?_, fun loading => ?_,
    fun saving => ?_, by simp [poll], form.workingSafe, form.snapshotSafe⟩
  · rw [form.noStep idle] at stands
    contradiction
  · obtain ⟨k, step, load⟩ := form.loadSteps loading
    rw [stands] at step
    cases step
    exact ⟨new, rfl, kind.symm.trans load⟩
  · obtain ⟨k, step, save⟩ := form.saveSteps saving
    rw [stands] at step
    cases step
    exact ⟨new, rfl, kind.symm.trans save⟩

/-- A poll of the same kind follows (R217, R223). -/
theorem startPoll_moves {old new : StoreStep} (stands : s.store.step = some old) (poll : isPollStep new = true)
    (kind : isLoadStep old = isLoadStep new) : Moves s (startPoll new s.store s) := by
  refine setStore_moves s _ rfl fun form => ⟨form.loading, form.saving, form.snapshotHeld, fun idle => ?_, fun loading => ?_,
    fun saving => ?_, by simp [poll], form.workingSafe, form.snapshotSafe⟩
  · rw [form.noStep idle] at stands
    contradiction
  · obtain ⟨k, step, load⟩ := form.loadSteps loading
    rw [stands] at step
    cases step
    exact ⟨new, rfl, kind.symm.trans load⟩
  · obtain ⟨k, step, save⟩ := form.saveSteps saving
    rw [stands] at step
    cases step
    exact ⟨new, rfl, kind.symm.trans save⟩

theorem readStatusStep_moves (statusByte : Byte) : Moves s (readStatusStep statusByte s) := by
  unfold readStatusStep
  split
  · exact .refl
  · split
    · next step => exact goToStep_moves s step rfl rfl
    · next step => exact goToStep_moves s step rfl rfl
    · next step => exact goToStep_moves s step rfl rfl
    · next step => exact goToStep_moves s step rfl rfl
    · exact .refl

theorem headerStep_moves (bytes : Vector Byte 8) (step : s.store.step = some .loadHeader) : Moves s (headerStep bytes s) := by
  unfold headerStep
  split
  · exact completeLoad_moves s _ _ fun c given => by cases given; exact calibrationSafe_default
  · exact completeLoad_moves s _ _ fun c given => by contradiction
  · exact goToStep_moves s step rfl rfl

theorem bodyStep_moves (crc : Half) (body : List Byte) : Moves s (bodyStep crc body s) := by
  unfold bodyStep
  split
  · exact completeLoad_moves s _ _ fun c given => by contradiction
  · split
    · exact completeLoad_moves s _ _ fun c given => by contradiction
    · next ordered =>
      exact completeLoad_moves s _ _ fun c given => by
        cases given
        exact calibrationSafe_bodyCalibration (by simpa using ordered)

theorem verifyStep_moves (bytes : List Byte) : Moves s (verifyStep bytes s) := by
  unfold verifyStep
  split
  · exact endOperation_moves s _
  · exact endOperation_moves s _

/-- SAVE starts its first poll with a snapshot (R222). -/
theorem startSave_moves :
    Moves s (startPoll .savePollFirst
      { s.store with state := .saving, operation := some .save, snapshot := some s.store.working } s) :=
  setStore_moves s _ rfl fun form => ⟨by simp, by simp, by simp, by simp, by simp, by simp [isLoadStep], by simp [isPollStep],
    form.workingSafe, fun c held => by cases held; exact form.workingSafe⟩

/-- LOAD starts its first poll (R221). -/
theorem startLoad_moves (idle : storeBusy s = false) :
    Moves s (startPoll .loadPoll { s.store with state := .loading, operation := some .load } s) := by
  refine setStore_moves s _ rfl fun form => ?_
  have absent : s.store.snapshot = none := by
    refine Option.not_isSome_iff_eq_none.mp fun held => ?_
    rw [storeBusy, form.snapshotHeld.mp held] at idle
    simp at idle
  exact ⟨by simp, by simp, by simp [absent], by simp, by simp [isLoadStep], by simp, by simp [isPollStep], form.workingSafe,
    form.snapshotSafe⟩

/-- MAP_SET stores a clamped point (R215). -/
theorem setPoint_moves (i : Nat) (inside : i < 9) (p : MapPoint)
    (ordered : mapOrdered (s.store.working.map.set i (clampPoint p)) = true) :
    Moves s (setWorking { s.store.working with map := s.store.working.map.set i (clampPoint p) } s) :=
  setStore_moves s _ rfl fun form =>
    { form with workingSafe := calibrationSafe_setPoint form.workingSafe i inside p ordered }

end Sys2Proof.Machine
end

section
/-! Requests and commands as runs of moves: a request moves and then replies, and every command but the resets is a run of
moves and of writes of the link. -/

namespace Sys2Proof.Machine

variable (s : State)

/-! ### The requests of the regime controller (R38, R50, R52, R61) -/

/-- A regime change with a brake command is one write of regime and brake, with its notice. -/
theorem changeRegime_setBrake (r : Regime) (cause : Option AbortCause) (b : Brake) :
    changeRegime r cause (setBrake b s) =
      postRegimeNotice ⟨r, s.regime.regime, cause, alphaAt r s.regime.blend (now s), nowMs s⟩
        (putControl { s.regime with regime := r } b s) := rfl

/-- RIDE acceptance with one write of regime and brake before the drive commands (R38). -/
theorem rideStep_eq :
    rideStep s =
      postRegimeNotice ⟨.unlocking, s.regime.regime, none, 0, nowMs s⟩
        (commandDrive .steer .run (commandDrive .tilt .run
          (putControl { s.regime with regime := .unlocking } (releaseBrake s) (targetSet s)))) := by
  have brake : releaseBrake (commandDrive .steer .run (commandDrive .tilt .run (targetSet s))) = releaseBrake s := by
    simp [releaseBrake, now]
  unfold rideStep
  rw [commandRelease_eq, brake, changeRegime_setBrake, commandDrive_putControl, commandDrive_putControl]
  simp [nowMs, now, alphaAt]

theorem rideStep_moves (parked : s.regime.regime = .parked) : Moves s (rideStep s) := by
  rw [rideStep_eq]
  refine .trans (.trans (.trans (.trans (targetSet_moves s) ?_) (commandDrive_moves _ .tilt .run fun _ _ => rfl))
    (commandSteer_moves _ .run)) (postRegimeNotice_moves _ _)
  refine putControl_move _ _ _ (fun form => ?_) (fun safe => brakeSafe_releaseBrake s safe.brake) (fun low => ?_)
    (fun _ _ => rfl)
  · rw [show (targetSet s).regime = s.regime from rfl] at form
    have blend := form.no_blend (by simp [parked]) (by simp [parked])
    have dwell := form.no_dwell (by simp [parked])
    have phase := form.no_phase (by simp [parked])
    have safeDrive := form.no_safe (by simp [parked])
    exact .of_absent (by simp) (by simp) blend (by simp [dwell]) (by simp [phase]) (by simp [safeDrive]) form.historyBound
      form.records
  · simp [deEnergised] at low

/-- RIDE is accepted in PARKED alone (R37). -/
theorem parked_of_rideRefusal (accepted : rideRefusal s = none) : s.regime.regime = .parked := by
  refine Decidable.byContradiction fun other => ?_
  unfold rideRefusal at accepted
  rw [if_pos other] at accepted
  split at accepted <;> contradiction

theorem startLocking_moves (riding : s.regime.regime = .unlocking ∨ s.regime.regime = .uprightHold) :
    Moves s (startLocking s) := by
  unfold startLocking
  rw [commandEngage_eq, changeRegime_setBrake]
  refine .trans ?_ (postRegimeNotice_moves _ _)
  refine putControl_move s { s.regime with dwellStart := none, regime := .locking } (engageBrake s) (fun form => ?_)
    (fun safe => brakeSafe_engageBrake s safe.brake) (fun low => ?_) (fun _ _ => rfl)
  · have blend := form.no_blend (by obtain h | h := riding <;> simp [h]) (by obtain h | h := riding <;> simp [h])
    have phase := form.no_phase (by obtain h | h := riding <;> simp [h])
    have safeDrive := form.no_safe (by obtain h | h := riding <;> simp [h])
    exact .of_absent (by simp) (by simp) blend (by simp) (by simp [phase]) (by simp [safeDrive]) form.historyBound
      form.records
  · simp [deEnergised] at low

/-- HOME is accepted in PARKED alone (R52). -/
theorem parked_of_homeRefusal (accepted : homeRefusal s = none) : s.regime.regime = .parked := by
  refine Decidable.byContradiction fun other => ?_
  unfold homeRefusal at accepted
  rw [if_pos other] at accepted
  contradiction

theorem homeStep_moves (parked : s.regime.regime = .parked) : Moves s (homeStep s) := by
  have sought := (seekChannel_moves s .tilt).trans (seekChannel_moves (seekChannel .tilt s) .steer)
  have regime : (seekChannel .steer (seekChannel .tilt s)).regime = s.regime := by simp
  unfold homeStep
  generalize seekChannel .steer (seekChannel .tilt s) = u at sought regime
  rw [commandRelease_eq]
  refine .trans (.trans sought ?_) (postRegimeNotice_moves _ _)
  refine putControl_move u { u.regime with phase := some .releasing, regime := .homing } (releaseBrake u) (fun form => ?_)
    (fun safe => brakeSafe_releaseBrake u safe.brake) (fun low => ?_) (fun safe run => ?_)
  · rw [regime] at form ⊢
    have blend := form.no_blend (by simp [parked]) (by simp [parked])
    have dwell := form.no_dwell (by simp [parked])
    have safeDrive := form.no_safe (by simp [parked])
    exact .of_absent (by simp) (by simp) blend (by simp [dwell]) (by simp) (by simp [safeDrive]) form.historyBound
      form.records
  · simp [deEnergised] at low
  · have riding := safe.runRiding run
    rw [regime, parked] at riding
    contradiction

/-- CLEAR is accepted in PARKED and SAFE alone (R61). -/
theorem regime_of_clearRefusal (accepted : clearRefusal s = none) :
    s.regime.regime = .parked ∨ s.regime.regime = .safe := by
  unfold clearRefusal at accepted
  split at accepted
  · next parked => exact .inl parked
  · next safe => exact .inr safe
  all_goals contradiction

theorem dropFaults_moves : Moves s (dropFaults s) :=
  (((((((clearChannel_moves s .tilt).trans (clearChannel_moves _ .steer)).trans (clearChannel_moves _ .bar)).trans
    (clearDrive_moves _ .tilt)).trans (clearDrive_moves _ .steer)).trans (clearBrake_moves _))).trans (clearWheels_moves _)

theorem changeRegime_putRegime (r : Regime) (cause : Option AbortCause) (c : RegimeControl) :
    changeRegime r cause (putRegime c s) =
      postRegimeNotice ⟨r, c.regime, cause, alphaAt r c.blend (now s), nowMs s⟩ (putRegime { c with regime := r } s) := rfl

theorem setSafeHolding_putRegime (h : Option Bool) (r : RegimeControl) :
    setSafeHolding h (putRegime r s) = putRegime { r with safeHolding := h } s := rfl

/-- CLEAR with one write of the regime record after the drive commands (R61). -/
theorem clearStep_eq :
    clearStep s =
      if s.regime.regime = .parked then
        putRegime { s.regime with history := [], safeHolding := none } (bothOff (dropFaults s))
      else changeRegime .parked none
        (putRegime { s.regime with history := [], safeHolding := none } (bothOff (dropFaults s))) := by
  have regime : (dropFaults s).regime = s.regime := by simp
  have emptied : ({ dropFaults s with regime := { (dropFaults s).regime with history := [] } } : State) =
      putRegime { s.regime with history := [] } (dropFaults s) := by rw [← regime]; rfl
  unfold clearStep
  dsimp only
  rw [emptied, bothOff_putRegime, setSafeHolding_putRegime]

theorem clearStep_moves (from_ : s.regime.regime = .parked ∨ s.regime.regime = .safe) : Moves s (clearStep s) := by
  have regime : (dropFaults s).regime = s.regime := by simp
  have low : deEnergised (dropFaults s).regime.regime := by
    rw [regime]
    exact .inr from_
  have form (h : RegimeForm s.regime) :
      RegimeForm { s.regime with regime := .parked, history := [], safeHolding := none } := by
    have blend := h.no_blend (by obtain h | h := from_ <;> simp [h]) (by obtain h | h := from_ <;> simp [h])
    have dwell := h.no_dwell (by obtain h | h := from_ <;> simp [h])
    have phase := h.no_phase (by obtain h | h := from_ <;> simp [h])
    exact .of_absent (by simp) (by simp) blend (by simp [dwell]) (by simp [phase]) (by simp) (by simp) (by simp)
  rw [clearStep_eq]
  refine (dropFaults_moves s).trans ?_
  split
  · next parked =>
    have same : ({ s.regime with history := [], safeHolding := none } : RegimeControl) =
        { s.regime with regime := .parked, history := [], safeHolding := none } := by rw [← parked]
    rw [same]
    refine putRegime_bothOff_moves _ _ (fun h => ?_) (.inr low)
    rw [regime] at h
    exact form h
  · rw [changeRegime_putRegime]
    refine .trans ?_ (postRegimeNotice_moves _ _)
    refine putRegime_bothOff_moves _ _ (fun h => ?_) (.inr low)
    rw [regime] at h
    exact form h

/-! ### A request as its owner takes it (R195, R196) -/

/-- A request that ends in its reply: a run of moves, then the reply (R196). -/
def Answers (s t : State) : Prop := ∃ u r, Moves s u ∧ t = postReply r u

variable {s}

theorem Answers.refused (k : RequestKind) (code : RefusalCode) : Answers s (refuse k code s) := ⟨s, _, .refl, rfl⟩

theorem Answers.accepted {u : State} (data : ReplyData) (moves : Moves s u) : Answers s (accept data u) :=
  ⟨u, _, moves, rfl⟩

variable (s)

theorem takeAlign_answers (n : Half) : Answers s (takeAlign n s) := by
  unfold takeAlign
  split
  · exact .refused _ _
  · split
    · exact .refused _ _
    · next synced => exact .accepted _ (align_moves s n synced)

theorem takeRide_answers : Answers s (takeRide s) := by
  unfold takeRide
  split
  · exact .refused _ _
  · next passes => exact .accepted _ (rideStep_moves s (parked_of_rideRefusal s passes))

theorem takePark_answers : Answers s (takePark s) := by
  unfold takePark
  split
  · exact .accepted _ .refl
  · exact .accepted _ .refl
  · next unlocking => exact .accepted _ (startLocking_moves s (.inl unlocking))
  · next hold =>
    split
    · exact .accepted _ (startLocking_moves s (.inr hold))
    · exact .refused _ _
  · next release => exact .accepted _ (transientAbort_moves s release rfl (speedNow_le s))
  all_goals exact .refused _ _

theorem takeHome_answers : Answers s (takeHome s) := by
  unfold takeHome
  split
  · exact .refused _ _
  · next passes => exact .accepted _ (homeStep_moves s (parked_of_homeRefusal s passes))

theorem takeClear_answers : Answers s (takeClear s) := by
  unfold takeClear
  split
  · exact .refused _ _
  · next passes => exact .accepted _ (clearStep_moves s (regime_of_clearRefusal s passes))

theorem takeParamSet_answers (id : Byte) (value : Half) : Answers s (takeParamSet id value s) := by
  unfold takeParamSet
  split
  · exact .refused _ _
  · split
    · exact .refused _ _
    · next p _ =>
      split
      · exact .refused _ _
      · exact .accepted _ (replaceWorking_moves s _ _ fun form => calibrationSafe_writeParam form p value.toNat)

theorem takeParamGet_answers (id : Byte) : Answers s (takeParamGet id s) := by
  unfold takeParamGet
  split
  · exact .refused _ _
  · exact .accepted _ .refl

theorem takeMapSet_answers (point : Byte) (speed kc kcs lmax : Half) : Answers s (takeMapSet point speed kc kcs lmax s) := by
  unfold takeMapSet
  dsimp only
  split
  · exact .refused _ _
  · split
    · next inside =>
      split
      · next ordered => exact .accepted _ (setPoint_moves s _ inside _ ordered)
      · exact .refused _ _
    · exact .refused _ _

theorem takeMapGet_answers (point : Byte) : Answers s (takeMapGet point s) := by
  unfold takeMapGet
  split
  · exact .accepted _ .refl
  · exact .refused _ _

theorem takeCounterSet_answers (counter event mask mode : Byte) (threshold : Word32) (action : Byte) :
    Answers s (takeCounterSet counter event mask mode threshold action s) := by
  unfold takeCounterSet
  split
  · split
    · exact .refused _ _
    · next config stores => exact .accepted _ (setCounter_moves s _ _ fun _ => counterSafe_configured stores _ _)
  · exact .refused _ _

theorem takeSave_answers : Answers s (takeSave s) := by
  unfold takeSave
  split
  · exact .refused _ _
  · split
    · exact .refused _ _
    · exact .accepted _ (startSave_moves s)

theorem takeLoad_answers : Answers s (takeLoad s) := by
  unfold takeLoad
  split
  · exact .refused _ _
  · split
    · exact .refused _ _
    · next idle => exact .accepted _ (startLoad_moves s (by simpa using idle))

/-- What a taken request leaves: a motion report moves alone, a RESET that is accepted closes handover after its reply, and
every other request ends in its reply (R194, R195, R206). -/
inductive Taken (s : State) : State → Prop
  | silent {t : State} (moves : Moves s t) : Taken s t
  | answered {t : State} (answers : Answers s t) : Taken s t
  | closed {t : State} (answers : Answers s t) : Taken s (closeHandover t)

theorem takeRequest_taken (k : RequestKind) (payload : List Byte) : Taken s (takeRequest k payload s) := by
  cases k with
  | motion => exact .silent (takeMotion_moves s payload)
  | align => exact .answered (takeAlign_answers s _)
  | ride => exact .answered (takeRide_answers s)
  | park => exact .answered (takePark_answers s)
  | home => exact .answered (takeHome_answers s)
  | clear => exact .answered (takeClear_answers s)
  | paramSet => exact .answered (takeParamSet_answers s _ _)
  | paramGet => exact .answered (takeParamGet_answers s _)
  | mapSet => exact .answered (takeMapSet_answers s _ _ _ _ _)
  | mapGet => exact .answered (takeMapGet_answers s _)
  | counterSet => exact .answered (takeCounterSet_answers s _ _ _ _ _ _)
  | counterRead => exact .answered (.accepted _ .refl)
  | counterClear => exact .answered (.accepted _ (clearNamed_moves s _))
  | historyRead => exact .answered (.accepted _ .refl)
  | status => exact .answered (.accepted _ .refl)
  | save => exact .answered (takeSave_answers s)
  | load => exact .answered (takeLoad_answers s)
  | reset =>
    unfold takeRequest takeReset
    dsimp only
    split
    · exact .closed (.accepted _ .refl)
    · exact .answered (.refused _ _)

theorem handOver_taken (f : Frame) : Taken s (handOver f s) := by
  unfold handOver
  split
  · exact .answered ⟨s, _, .refl, rfl⟩
  · next k named =>
    split
    · exact takeRequest_taken s k f.payload
    · exact .answered (.refused _ _)

end Sys2Proof.Machine
end

section
/-! Every command is one of a few kinds of run, and so every step keeps the invariants of Safety.lean. -/

namespace Sys2Proof.Machine

variable (s : State) {t : State}

/-! ### What a command does -/

/-- What a command leaves: a reset, a run of moves, or one of the link's own events. -/
inductive Done (s : State) : State → Prop
  | powerOn (levels : PinLevels) : Done s (powerOnState levels s.pending)
  | commandReset : Done s (commandResetState s)
  | moved {t : State} (moves : Moves s t) : Done s t
  | presented (f : Frame) : Done s (presentFrame f s)
  | byte (b : Byte) : Done s (linkByteStep b s)
  | gap : Done s (deliver .linkFrame (frameKinds false false false true false) (endAssembly s))
  | frameEnd : Done s (transmitEndStep s)

/-- A command that is due moves, and otherwise changes nothing. -/
theorem Done.due {s : State} (due : Bool) (f : State → State) (moves : due = true → Moves s (f s)) :
    Done s (if due = true then f s else s) := by
  split
  · next h => exact .moved (moves h)
  · exact .moved .refl

theorem statusTimerStep_moves : Moves s (statusTimerStep s) :=
  (Move.link s (statusTimerStep s).link (quiet_post rfl rfl rfl rfl rfl rfl)).moves

theorem blendDue_regime {r : Regime} {k : BlendKind} (due : blendDue s r k = true) : s.regime.regime = r := by
  unfold blendDue at due
  split at due
  · contradiction
  · exact (of_decide_eq_true due).1

theorem mark_of_millisecondDue {i : Fin 8} (due : millisecondDue s i = true) :
    s.counters.counters[i].mark.isSome = true := by
  have timer := of_decide_eq_true due
  obtain ⟨m, mark, -⟩ := Option.map_eq_some_iff.mp timer
  rw [mark]
  rfl

theorem bodyRead_moves (body : List Byte) :
    Moves s (match s.store.step with
      | some (.loadBody count crc) => if body.length = 72 + 3 * count then bodyStep crc body s else s
      | _ => s) := by
  split
  · split
    · exact bodyStep_moves s _ body
    · exact .refl
  · exact .refl

theorem writeEnable_moves :
    Moves s (match s.store.step with
      | some .saveEnableErase => goToStep .saveErase s
      | some .saveEnableProgram => goToStep .saveProgram s
      | _ => s) := by
  split
  · next step => exact goToStep_moves s step rfl rfl
  · next step => exact goToStep_moves s step rfl rfl
  · exact .refl

theorem pwmBoundary_moves (toc soc : Bool) :
    Moves s (driveBoundary .steer soc (driveBoundary .tilt toc (beginPeriod toc soc s))) :=
  ((beginPeriod_moves s toc soc).trans (driveBoundary_moves _ .tilt toc)).trans (driveBoundary_moves _ .steer soc)

theorem loop_moves (tside sside : Bool) :
    Moves s (driveLoop .steer (driveLoop .tilt (beginLoop (sampleSides tside sside s)))) :=
  (((sampleSides_moves s tside sside).trans (beginLoop_moves _)).trans (driveLoop_moves _ .tilt)).trans
    (driveLoop_moves _ .steer)

/-- What each command leaves. -/
theorem exec_done (c : Instr) (h : exec c s = .next t) : Done s t := by
  cases c with
  | powerOnReset levels => exact Host.Outcome.next.inj h ▸ .powerOn levels
  | commandReset =>
    rw [← Host.Outcome.next.inj h]
    split
    · exact .commandReset
    · exact .moved .refl
  | linkByte b => exact Host.Outcome.next.inj h ▸ .byte b
  | gapTimerExpiry =>
    rw [← Host.Outcome.next.inj h]
    split
    · exact .gap
    · exact .moved .refl
  | transmitEnd => exact Host.Outcome.next.inj h ▸ .frameEnd
  | unknownKind | motion | align | ride | park | home | clear | paramSet | paramGet | mapSet | mapGet | counterSet
  | counterRead | counterClear | historyRead | status | save | load | reset => exact Host.Outcome.next.inj h ▸ .presented _
  | statusTimerExpiry => exact Host.Outcome.next.inj h ▸ .due _ _ fun _ => statusTimerStep_moves s
  | strobe => exact Host.Outcome.next.inj h ▸ .moved (strobeStep_moves s)
  | missedStrobe =>
    rw [← Host.Outcome.next.inj h]
    split
    · exact .moved ((missedStep_moves s).trans (deliver_moves _ _ _))
    · exact .moved .refl
  | freshnessDeadlineExpiry => exact Host.Outcome.next.inj h ▸ .due _ _ fun _ => loseFreshness_moves s
  | lineEvent c lines z => exact Host.Outcome.next.inj h ▸ .moved (lineStep_moves s c lines z)
  | suspectTimerExpiry c =>
    rw [← Host.Outcome.next.inj h]
    split
    · exact .moved (faultChannel_moves s c _ _)
    · exact .moved .refl
  | wheelEdge w => exact Host.Outcome.next.inj h ▸ .moved (wheelEdgeStep_moves s w)
  | stopTimerExpiry w => exact Host.Outcome.next.inj h ▸ .due _ _ fun _ => stopWheel_moves s w
  | lawExpiry => exact Host.Outcome.next.inj h ▸ .due _ _ fun _ => lawStep_moves s
  | releaseBlendExpiry =>
    rw [← Host.Outcome.next.inj h]
    split
    · next due => exact .moved (releaseEnd_moves s (blendDue_regime s due))
    · exact .moved .refl
  | captureBlendExpiry =>
    exact Host.Outcome.next.inj h ▸ .due _ _ fun due => finishCapture_moves s (blendDue_regime s due)
  | leaveInit =>
    exact Host.Outcome.next.inj h ▸ .due _ _ fun due => leaveInitStep_moves s (of_decide_eq_true due).1
  | brakeReleased tside sside =>
    rw [← Host.Outcome.next.inj h]
    split
    · exact .moved ((sampleSides_moves s tside sside).trans (brakeReleasedStep_moves _))
    · exact .moved .refl
  | brakeEngaged =>
    exact Host.Outcome.next.inj h ▸ .due _ _ fun due => brakeEngagedStep_moves s (of_decide_eq_true due).1
  | pwmBoundary toc soc =>
    rw [← Host.Outcome.next.inj h]
    split
    · exact .moved (pwmBoundary_moves s toc soc)
    · exact .moved .refl
  | loopExpiry tside sside =>
    rw [← Host.Outcome.next.inj h]
    split
    · exact .moved (loop_moves s tside sside)
    · exact .moved .refl
  | overcurrentCut d =>
    rw [← Host.Outcome.next.inj h]
    split
    · exact .moved (cutPeriod_moves s d)
    · exact .moved .refl
  | creepTimerExpiry d =>
    rw [← Host.Outcome.next.inj h]
    split
    · exact .moved ((stopCreep_moves s d).trans (creepTimeoutTaken_moves _ d))
    · exact .moved .refl
  | brksRise => exact Host.Outcome.next.inj h ▸ .moved (brksRiseStep_moves s)
  | brksFall => exact Host.Outcome.next.inj h ▸ .moved (brksFallStep_moves s)
  | brakeTimerExpiry => exact Host.Outcome.next.inj h ▸ .due _ _ fun _ => brakeTimeoutStep_moves s
  | millisecondTimerExpiry i =>
    rw [← Host.Outcome.next.inj h]
    split
    · next due => exact .moved (millisecondExpiry_moves s i (mark_of_millisecondDue s due))
    · exact .moved .refl
  | readStatusDone b => exact Host.Outcome.next.inj h ▸ .moved (readStatusStep_moves s b)
  | pollLimitExpiry => exact Host.Outcome.next.inj h ▸ .due _ _ fun _ => endOperation_moves s .timeout
  | headerReadDone bytes =>
    rw [← Host.Outcome.next.inj h]
    split
    · next step => exact .moved (headerStep_moves s bytes step)
    · exact .moved .refl
  | bodyReadDone body => exact Host.Outcome.next.inj h ▸ .moved (bodyRead_moves s body)
  | writeEnableDone => exact Host.Outcome.next.inj h ▸ .moved (writeEnable_moves s)
  | sectorEraseDone =>
    rw [← Host.Outcome.next.inj h]
    split
    · next step => exact .moved (startPoll_moves s step rfl rfl)
    · exact .moved .refl
  | pageProgramDone =>
    rw [← Host.Outcome.next.inj h]
    split
    · next step => exact .moved (startPoll_moves s step rfl rfl)
    · exact .moved .refl
  | verifyReadDone bytes =>
    rw [← Host.Outcome.next.inj h]
    split
    · exact .moved (verifyStep_moves s _)
    · exact .moved .refl

/-- A step takes the front command, takes an event that is due, or lets a microsecond pass. -/
theorem step_cases (h : step s = .next t) :
    (∃ rest, Done { s with pending := rest } t) ∨ Done s t ∨ t = tick s := by
  unfold step at h
  split at h
  · next c rest _ => exact .inl ⟨rest, exec_done _ c h⟩
  · split at h
    · next c _ => exact .inr (.inl (exec_done s c h))
    · exact .inr (.inr (Host.Outcome.next.inj h).symm)

/-- A predicate that does not read the queue of commands, that every command keeps and that a microsecond keeps is kept by
every step. -/
theorem step_keeps {P : State → Prop} (dequeued : ∀ s rest, P s → P { s with pending := rest })
    (ticked : ∀ s, P s → P (tick s)) (done : ∀ s t, Done s t → P s → P t) (safe : P s) (h : step s = .next t) : P t := by
  obtain ⟨rest, run⟩ | run | rfl := step_cases s h
  · exact done _ _ run (dequeued s rest safe)
  · exact done _ _ run safe
  · exact ticked s safe

/-! ### A predicate that does not read the link -/

/-- A predicate that moves keep and that does not read the link. -/
structure Unlinked (P : State → Prop) : Prop where
  move : ∀ s t, Move s t → P s → P t
  link : ∀ s l, P s → P { s with link := l }

section
variable {P : State → Prop} {s : State}

theorem Unlinked.moves (h : Unlinked P) {t : State} (moves : Moves s t) (safe : P s) : P t := moves.keeps h.move safe

theorem Unlinked.handOver (h : Unlinked P) (f : Frame) (safe : P s) : P (handOver f s) := by
  have taken := handOver_taken s f
  generalize Machine.handOver f s = t at taken ⊢
  cases taken with
  | silent moves => exact h.moves moves safe
  | answered answers =>
    obtain ⟨u, r, moves, eq⟩ := answers
    rw [eq]
    exact h.link _ _ (h.moves moves safe)
  | closed answers =>
    obtain ⟨u, r, moves, eq⟩ := answers
    rw [eq]
    exact h.link _ _ (h.link _ _ (h.moves moves safe))

theorem Unlinked.handOverWaiting (h : Unlinked P) (n : Nat) (safe : P s) : P (handOverWaiting n s) := by
  induction n generalizing s with
  | zero => exact safe
  | succ n ih =>
    unfold Machine.handOverWaiting
    split
    · exact safe
    · split
      · exact ih (h.handOver _ (h.link _ _ safe))
      · exact safe

theorem Unlinked.goodFrame (h : Unlinked P) (f : Frame) (safe : P s) : P (goodFrame f s) := by
  unfold Machine.goodFrame
  split
  · exact h.handOverWaiting _ (h.moves (deliver_moves _ _ _) (h.link _ _ safe))
  · exact h.moves (deliver_moves _ _ _) safe

theorem Unlinked.linkByteStep (h : Unlinked P) (b : Byte) (safe : P s) : P (linkByteStep b s) := by
  unfold Machine.linkByteStep
  split
  · split
    · exact h.link _ _ safe
    · exact safe
  · split
    · exact h.link _ _ safe
    · exact h.moves (deliver_moves _ _ _) (h.link _ _ safe)
  · exact h.link _ _ safe
  · exact h.link _ _ safe
  · exact h.link _ _ safe
  · unfold crcVerdict
    split
    · exact h.goodFrame _ (h.link _ _ safe)
    · exact h.moves (deliver_moves _ _ _) (h.link _ _ safe)

theorem Unlinked.transmitEnd (h : Unlinked P) (reset : P (commandResetState s)) (safe : P s) : P (transmitEndStep s) := by
  unfold transmitEndStep
  split
  · exact reset
  · split
    · exact safe
    · exact h.link _ _ safe
    · exact h.handOverWaiting _ (h.link _ _ safe)

/-- A predicate that does not read the link is kept by every command when the resets give it. -/
theorem Unlinked.done (h : Unlinked P) (powerOn : ∀ levels pending, P (powerOnState levels pending))
    (reset : P s → P (commandResetState s)) {t : State} (run : Done s t) (safe : P s) : P t := by
  cases run with
  | powerOn levels => exact powerOn levels _
  | commandReset => exact reset safe
  | moved moves => exact h.moves moves safe
  | presented f =>
    unfold presentFrame
    split
    · exact h.handOverWaiting _ (h.link _ _ safe)
    · exact safe
  | byte b => exact h.linkByteStep b safe
  | gap => exact h.moves (deliver_moves _ _ _) (h.link _ _ safe)
  | frameEnd => exact h.transmitEnd (reset safe) safe

end

/-! ### The invariants but the link's -/

theorem storeSafe_powerOn : StoreSafe powerOnStore := by
  constructor <;> simp [powerOnStore, isLoadStep, isPollStep]
  exact calibrationSafe_default

theorem storeSafe_commandReset {c : Calibration} (h : CalibrationSafe c) : StoreSafe (commandResetStore c) := by
  constructor <;> simp [commandResetStore]
  exact h

/-- Settles O7: every move keeps the store's form, and the resets give it. -/
theorem stepKeepsStoreSafe : Obligations.StepKeepsStoreSafe := by
  unfold Obligations.StepKeepsStoreSafe
  have unlinked : Unlinked fun s => StoreSafe s.store := ⟨fun _ _ => Move.keeps_store, fun _ _ => id⟩
  intro s t safe h
  exact step_keeps s (P := fun s => StoreSafe s.store) (fun _ _ => id) (fun _ => id)
    (fun s t run => unlinked.done (fun _ _ => storeSafe_powerOn) (fun safe => storeSafe_commandReset safe.workingSafe) run)
    safe h

@[simp] theorem resetDrivesAt_fields (brks : Bool) :
    (resetDrivesAt brks).tilt = resetDrive ∧ (resetDrivesAt brks).steer = resetDrive ∧
    (resetDrivesAt brks).brake = if brks then ⟨.engaging, false, some 150000⟩ else ⟨.engaged, false, none⟩ := by
  cases brks <;> exact ⟨rfl, rfl, rfl⟩

/-- A state with the reset law, intake and drives is within any limits. -/
theorem limitsSafe_of_reset (law : s.law = resetLaw) (intake : s.intake = resetIntake) (tilt : s.drives.tilt = resetDrive)
    (steer : s.drives.steer = resetDrive) : LimitsSafe s := by
  constructor <;> simp [law, intake, tilt, steer, resetLaw, resetIntake, dutiesWithin, resetDrive]

/-- Settles O8: every move keeps what is published within the limits in force, and a reset publishes 0. -/
theorem stepKeepsLimitsSafe : Obligations.StepKeepsLimitsSafe := by
  unfold Obligations.StepKeepsLimitsSafe
  have unlinked : Unlinked LimitsSafe := ⟨fun _ _ => Move.keeps_limits, fun _ _ safe => safe.congr rfl rfl rfl rfl rfl⟩
  intro s t safe h
  refine step_keeps s (fun s rest safe => safe.congr rfl rfl rfl rfl rfl) (fun s safe => safe.congr rfl rfl rfl rfl rfl)
    (fun s t run => unlinked.done (fun levels pending => ?_) (fun _ => ?_) run) safe h
  · exact limitsSafe_of_reset _ rfl rfl (by simp [powerOnState]) (by simp [powerOnState])
  · exact limitsSafe_of_reset _ rfl rfl (by simp [commandResetState]) (by simp [commandResetState])

theorem regimeSafe_of_reset (law : s.law = resetLaw) (regime : s.regime = resetRegime) : RegimeSafe s := by
  constructor <;> simp [law, regime, resetLaw, resetRegime]

theorem RegimeSafe.congr {s t : State} (h : RegimeSafe s) (law : t.law = s.law) (regime : t.regime = s.regime) :
    RegimeSafe t := by
  rw [regimeSafe_iff] at h ⊢
  rw [law, regime]
  exact h

/-- Settles O9: every move keeps the regime record in form and the ring short, and the resets give the record of INIT. -/
theorem stepKeepsRegimeSafe : Obligations.StepKeepsRegimeSafe := by
  unfold Obligations.StepKeepsRegimeSafe
  have unlinked : Unlinked RegimeSafe := ⟨fun _ _ => Move.keeps_regime, fun _ _ safe => safe.congr rfl rfl⟩
  intro s t safe h
  exact step_keeps s (fun s rest safe => safe.congr rfl rfl) (fun s safe => safe.congr rfl rfl)
    (fun s t run => unlinked.done (fun _ _ => regimeSafe_of_reset _ rfl rfl) (fun _ => regimeSafe_of_reset _ rfl rfl) run)
    safe h

theorem drivesSafe_of_reset (brks : Bool) (drives : s.drives = resetDrivesAt brks) : DrivesSafe s := by
  have drive : DriveSafe resetDrive := by constructor <;> simp [resetDrive]
  constructor
  · simpa [drives] using drive
  · simpa [drives] using drive
  · cases brks <;> simp [drives]
  · cases brks <;> simp [drives]
  · cases brks <;> simp [drives]
  · simp [drives, resetDrive]

/-- Settles O10: every move keeps the drives and the brake safe, and the resets leave both drives OFF. -/
theorem stepKeepsDrivesSafe : Obligations.StepKeepsDrivesSafe := by
  unfold Obligations.StepKeepsDrivesSafe
  have unlinked : Unlinked DrivesSafe := ⟨fun _ _ => Move.keeps_drives, fun _ _ safe => safe.congr rfl rfl rfl rfl⟩
  intro s t safe h
  exact step_keeps s (fun s rest safe => safe.congr rfl rfl rfl rfl) (fun s safe => safe.congr rfl rfl rfl rfl)
    (fun s t run => unlinked.done (fun _ _ => drivesSafe_of_reset _ _ rfl) (fun _ => drivesSafe_of_reset _ _ rfl) run)
    safe h

theorem conditionsSafe_of_reset (brks : Bool) (wheels : s.wheels = resetWheels) (intake : s.intake = resetIntake)
    (drives : s.drives = resetDrivesAt brks) (law : s.law = resetLaw) (counters : s.counters = resetCounters) :
    ConditionsSafe s := by
  have stale : quality s = .stale := by rw [quality, intake]; rfl
  unfold ConditionsSafe
  rw [stale, wheels, intake, law, counters, drives]
  simp only [resetDrivesAt_fields]
  rfl

/-- Settles O11: every producer that changes tells the condition table, and the resets give the table of R172. -/
theorem stepKeepsConditionsSafe : Obligations.StepKeepsConditionsSafe := by
  unfold Obligations.StepKeepsConditionsSafe
  have unlinked : Unlinked ConditionsSafe := ⟨fun _ _ => Move.keeps_conditions, fun _ _ => id⟩
  intro s t safe h
  exact step_keeps s (fun _ _ => id) (fun _ => id)
    (fun s t run => unlinked.done (fun _ _ => conditionsSafe_of_reset _ _ rfl rfl rfl rfl rfl)
      (fun _ => conditionsSafe_of_reset _ _ rfl rfl rfl rfl rfl) run) safe h

theorem channelSafe_reset (lines : LinePair) : ChannelSafe (resetChannel lines) := by
  constructor <;> simp [resetChannel]

theorem recordsSafe_of_reset (a b c : LinePair) (channels : s.channels = ⟨resetChannel a, resetChannel b, resetChannel c⟩)
    (wheels : s.wheels = resetWheels) (timeBase : s.timeBase = resetTimeBase) (intake : s.intake = resetIntake)
    (counters : s.counters = resetCounters) : RecordsSafe s := by
  have wheel : WheelSafe resetWheel := by constructor <;> simp [resetWheel]
  have safe : CountersSafe resetCounters := by
    rw [countersSafe_iff]
    intro i
    simp only [resetCounters, Vector.getElem_replicate, Fin.getElem_fin]
    constructor <;> simp [resetCounter, resetConfig]
  refine ⟨?_, ?_, ?_, ?_, ?_, ?_, ?_, ?_, ?_⟩
  · rw [channels]; exact channelSafe_reset a
  · rw [channels]; exact channelSafe_reset b
  · rw [channels]; exact channelSafe_reset c
  · rw [wheels]; exact wheel
  · rw [wheels]; exact wheel
  · rw [wheels]; exact wheel
  · rw [timeBase]; constructor <;> simp [resetTimeBase]
  · rw [intake]; constructor <;> simp [resetIntake]
  · rw [counters]; exact safe

/-- Settles O12: every move keeps the records in form, and the resets give the records of their tables. -/
theorem stepKeepsRecordsSafe : Obligations.StepKeepsRecordsSafe := by
  unfold Obligations.StepKeepsRecordsSafe
  have unlinked : Unlinked RecordsSafe :=
    ⟨fun _ _ => Move.keeps_records, fun _ _ h => h.congr rfl rfl rfl rfl rfl h.intake h.counters⟩
  intro s t safe h
  refine step_keeps s (fun s rest h => h.congr rfl rfl rfl rfl rfl h.intake h.counters) (fun s h => ?_)
    (fun s t run => unlinked.done (fun _ _ => recordsSafe_of_reset _ _ _ _ rfl rfl rfl rfl rfl)
      (fun _ => recordsSafe_of_reset _ _ _ _ rfl rfl rfl rfl rfl) run) safe h
  have timeBase : TimeBaseSafe (tick s).timeBase :=
    ⟨h.timeBase.grid, h.timeBase.unsynced, h.timeBase.syncing, h.timeBase.locked, h.timeBase.holdover⟩
  exact ⟨h.tilt, h.steer, h.bar, h.fl, h.fr, h.rr, timeBase, h.intake, h.counters⟩

end Sys2Proof.Machine
end

section
/-! Every step keeps the link's bounds and waiting rules: moves are quiet on the link, a reply needs a place in its queue, and
handover goes on until the head frame may not be taken. -/

namespace Sys2Proof.Machine

variable {l l' : Link} {s : State}

/-- What a link keeps at every moment, handover under way or not (R188, R191, R196, R197). -/
structure LinkForm (l : Link) : Prop where
  receiveBound : l.receiveQueue.length ≤ 4
  replyBound : l.replyQueue.length ≤ 4
  gapRuns : l.gapTimer = none ↔ l.receiver = .hunt
  partialFits : receiverFits l.receiver
  idleEmpty : l.transmitter = none → NothingPending l

/-- The head frame of the receive queue may not be taken (R194). -/
def HeadWaits (l : Link) : Prop := ∀ f rest, l.receiveQueue = f :: rest → mayTake f l = false

theorem LinkSafe.form (h : LinkSafe l) : LinkForm l :=
  ⟨h.receiveBound, h.replyBound, h.gapRuns, h.partialFits, h.idleEmpty⟩

theorem LinkForm.safe (h : LinkForm l) (waits : HeadWaits l) : LinkSafe l :=
  ⟨h.receiveBound, h.replyBound, h.gapRuns, h.partialFits, h.idleEmpty, waits⟩

theorem LinkForm.quiet (h : LinkForm l) (quiet : Quiet l l') : LinkForm l' := by
  obtain ⟨replies, idle⟩ := quiet.replies h.idleEmpty
  constructor
  · rw [quiet.receiveQueue]; exact h.receiveBound
  · rw [replies]; exact h.replyBound
  · rw [quiet.gapTimer, quiet.receiver]; exact h.gapRuns
  · rw [quiet.receiver]; exact h.partialFits
  · exact idle

/-- Whether a frame may be taken depends on handover and the room for replies alone (R194). -/
theorem mayTake_congr (f : Frame) (handover : l'.handover = l.handover) (replyQueue : l'.replyQueue = l.replyQueue) :
    mayTake f l' = mayTake f l := by
  unfold mayTake
  rw [handover, replyQueue]

theorem LinkSafe.quiet (h : LinkSafe l) (quiet : Quiet l l') : LinkSafe l' := by
  obtain ⟨replies, -⟩ := quiet.replies h.idleEmpty
  refine (h.form.quiet quiet).safe fun f rest head => ?_
  rw [mayTake_congr f quiet.handover replies]
  exact h.headWaits f rest (quiet.receiveQueue ▸ head)

/-- A reply that has room keeps the link's form (R196, R197). -/
theorem LinkForm.reply (h : LinkForm l) (room : l.replyQueue.length < 4) (r : Reply) :
    LinkForm (selectToSend { l with replyQueue := l.replyQueue ++ [r] }) := by
  obtain ⟨receiver, gapTimer, receiveQueue, -, -⟩ := selectToSend_fields { l with replyQueue := l.replyQueue ++ [r] }
  constructor
  · rw [receiveQueue]; exact h.receiveBound
  · have bound := selectToSend_replyQueue { l with replyQueue := l.replyQueue ++ [r] }
    simp only [List.length_append, List.length_singleton] at bound
    omega
  · rw [gapTimer, receiver]; exact h.gapRuns
  · rw [receiver]; exact h.partialFits
  · exact selectToSend_idle _

theorem LinkForm.closed (h : LinkForm l) : LinkForm { l with handover := .closed } :=
  ⟨h.receiveBound, h.replyBound, h.gapRuns, h.partialFits, fun idle => by
    obtain ⟨a, b, c, d, e, f, g⟩ := h.idleEmpty idle
    exact ⟨a, b, c, d, e, f, g⟩⟩

/-! ### Handover (R194, R195) -/

theorem handOver_of_motion (f : Frame) (motion : f.kind = kindByte .motion) : handOver f s = takeMotion f.payload s := by
  unfold handOver
  rw [motion, kindOfByte_kindByte]
  rfl

theorem taken_receiveQueue {t : State} (taken : Taken s t) : t.link.receiveQueue = s.link.receiveQueue := by
  have answered (t : State) (answers : Answers s t) : t.link.receiveQueue = s.link.receiveQueue := by
    obtain ⟨u, r, moves, rfl⟩ := answers
    obtain ⟨-, -, receiveQueue, -, -⟩ := selectToSend_fields { u.link with replyQueue := u.link.replyQueue ++ [r] }
    exact receiveQueue.trans moves.quiet.receiveQueue
  cases taken with
  | silent moves => exact moves.quiet.receiveQueue
  | answered answers => exact answered _ answers
  | closed answers => simpa using answered _ answers

/-- A frame handed over leaves the receive queue as it stands without it (R194). -/
theorem handOver_receiveQueue (f : Frame) (s : State) : (handOver f s).link.receiveQueue = s.link.receiveQueue :=
  taken_receiveQueue (handOver_taken s f)

theorem LinkForm.taken (h : LinkForm s.link) (room : s.link.replyQueue.length < 4) {t : State} (taken : Taken s t) :
    LinkForm t.link := by
  have answered {t : State} (answers : Answers s t) : LinkForm t.link := by
    obtain ⟨u, r, moves, rfl⟩ := answers
    obtain ⟨replies, -⟩ := moves.quiet.replies h.idleEmpty
    exact (h.quiet moves.quiet).reply (by rw [replies]; exact room) r
  cases taken with
  | silent moves => exact h.quiet moves.quiet
  | answered answers => exact answered answers
  | closed answers => exact (answered answers).closed

theorem LinkForm.handOver (h : LinkForm s.link) {f : Frame} (takes : mayTake f s.link = true) :
    LinkForm (handOver f s).link := by
  obtain ⟨-, motion | room⟩ := (mayTake_iff f s.link).mp takes
  · rw [handOver_of_motion f motion]
    exact h.quiet (takeMotion_moves s _).quiet
  · exact h.taken room (handOver_taken s f)

/-- Handover ends with an empty queue or a head frame that may not be taken (R194). -/
theorem LinkForm.handOverWaiting (h : LinkForm s.link) (n : Nat) (enough : s.link.receiveQueue.length ≤ n) :
    LinkSafe (handOverWaiting n s).link := by
  induction n generalizing s with
  | zero =>
    have empty : s.link.receiveQueue = [] := List.length_eq_zero_iff.mp (Nat.le_zero.mp enough)
    exact h.safe fun f rest head => by rw [empty] at head; contradiction
  | succ n ih =>
    unfold Machine.handOverWaiting
    split
    · next empty => exact h.safe fun f rest head => by rw [empty] at head; contradiction
    · next f rest queue =>
      rw [queue, List.length_cons] at enough
      have bound := h.receiveBound
      rw [queue, List.length_cons] at bound
      split
      · next takes =>
        have shortened : LinkForm (setReceiveQueue rest s).link :=
          ⟨by show rest.length ≤ 4; omega, h.replyBound, h.gapRuns, h.partialFits, fun idle => by
            obtain ⟨a, b, c, d, e, f, g⟩ := h.idleEmpty idle
            exact ⟨a, b, c, d, e, f, g⟩⟩
        refine ih (shortened.handOver takes) ?_
        rw [handOver_receiveQueue]
        exact Nat.le_of_succ_le_succ enough
      · next waits =>
        refine h.safe fun g more head => ?_
        rw [queue] at head
        cases head
        simpa using waits

theorem LinkForm.proceedHandover (h : LinkForm s.link) : LinkSafe (proceedHandover s).link := h.handOverWaiting _ (Nat.le_refl _)

/-- A frame that enters a queue with room (R193). -/
theorem LinkForm.queued (h : LinkForm s.link) (room : s.link.receiveQueue.length < 4) (f : Frame) :
    LinkForm (setReceiveQueue (s.link.receiveQueue ++ [f]) s).link :=
  ⟨by simp [setReceiveQueue]; omega, h.replyBound, h.gapRuns, h.partialFits, fun idle => by
    obtain ⟨a, b, c, d, e, f, g⟩ := h.idleEmpty idle
    exact ⟨a, b, c, d, e, f, g⟩⟩

/-! ### Receiving (R191 to R193) -/

/-- The receiver and its gap timer changed together (R191, R192). -/
theorem LinkSafe.received (h : LinkSafe l) (r : Receiver) (timer : Option Time) (runs : timer = none ↔ r = .hunt)
    (fits : receiverFits r) : LinkSafe { l with receiver := r, gapTimer := timer } :=
  ⟨h.receiveBound, h.replyBound, runs, fits, fun idle => by
    obtain ⟨a, b, c, d, e, f, g⟩ := h.idleEmpty idle
    exact ⟨a, b, c, d, e, f, g⟩, h.headWaits⟩

theorem LinkSafe.assembled (h : LinkSafe s.link) (r : Receiver) (out : r ≠ .hunt) (fits : receiverFits r) :
    LinkSafe (assemble r s).link := h.received r _ (by simp [out]) fits

theorem LinkSafe.ended (h : LinkSafe s.link) : LinkSafe (endAssembly s).link := h.received .hunt none (by simp) trivial

theorem LinkSafe.delivered (h : LinkSafe s.link) (e : CounterEvent) (kinds : Byte) : LinkSafe (deliver e kinds s).link :=
  h.quiet (deliver_moves s e kinds).quiet

theorem LinkSafe.presented (h : LinkSafe s.link) (f : Frame) : LinkSafe (presentFrame f s).link := by
  unfold presentFrame
  split
  · next room => exact (h.form.queued room f).proceedHandover
  · exact h

theorem LinkSafe.goodFrame (h : LinkSafe s.link) (f : Frame) : LinkSafe (goodFrame f s).link := by
  unfold Machine.goodFrame
  split
  · next room =>
    exact LinkForm.proceedHandover ((h.form.queued room f).quiet (deliver_moves _ _ _).quiet)
  · exact h.delivered _ _

theorem LinkSafe.byteTaken (h : LinkSafe s.link) (b : Byte) : LinkSafe (linkByteStep b s).link := by
  have fits := h.partialFits
  cases receiver : s.link.receiver with
  | hunt =>
    rw [linkByteStep_of_hunt b s receiver]
    split
    · exact h.assembled _ (by simp) trivial
    · exact h
  | len =>
    rw [linkByteStep_of_len b s receiver]
    split
    · next short => exact h.assembled _ (by simp) short
    · exact h.ended.delivered _ _
  | kind n =>
    rw [receiver] at fits
    rw [linkByteStep_of_kind b s receiver]
    refine h.assembled _ (by split <;> simp) ?_
    split
    · exact Nat.zero_le _
    · next some_ => exact ⟨fits, Nat.pos_of_ne_zero some_⟩
  | payload n kind taken =>
    rw [receiver] at fits
    obtain ⟨bound, few⟩ := fits
    rw [linkByteStep_of_payload b s receiver few]
    refine h.assembled _ (by split <;> simp) ?_
    split
    · show (taken ++ [b]).length ≤ 48
      simp; omega
    · next more => exact ⟨bound, by simp; omega⟩
  | crcHi kind payload =>
    rw [receiver] at fits
    rw [linkByteStep_of_crcHi b s receiver]
    exact h.assembled _ (by simp) fits
  | crcLo kind payload high =>
    rw [linkByteStep_of_crcLo b s receiver]
    unfold crcVerdict
    split
    · exact h.ended.goodFrame _
    · exact h.ended.delivered _ _

/-! ### Sending (R197, R198, R207) -/

theorem linkSafe_reset (period : Nat) : LinkSafe (resetLink period) := by
  constructor <;> simp [resetLink, receiverFits, nothingPending_iff]

theorem LinkSafe.frameEnded (h : LinkSafe s.link) : LinkSafe (transmitEndStep s).link := by
  unfold transmitEndStep
  split
  · exact linkSafe_reset _
  · split
    · exact h
    · exact ⟨h.receiveBound, h.replyBound, h.gapRuns, h.partialFits, fun idle => by simp at idle, h.headWaits⟩
    · refine LinkForm.proceedHandover ?_
      obtain ⟨receiver, gapTimer, receiveQueue, -, -⟩ := selectToSend_fields { s.link with transmitter := none }
      constructor
      · show (selectToSend _).receiveQueue.length ≤ 4
        rw [receiveQueue]; exact h.receiveBound
      · exact Nat.le_trans (selectToSend_replyQueue _) h.replyBound
      · show (selectToSend _).gapTimer = none ↔ (selectToSend _).receiver = .hunt
        rw [gapTimer, receiver]; exact h.gapRuns
      · show receiverFits (selectToSend _).receiver
        rw [receiver]; exact h.partialFits
      · exact selectToSend_idle _

/-- Settles O6: moves are quiet on the link, and each of the link's own events is taken case by case. -/
theorem stepKeepsLinkSafe : Obligations.StepKeepsLinkSafe := by
  unfold Obligations.StepKeepsLinkSafe
  intro s t safe h
  refine step_keeps s (P := fun s => LinkSafe s.link) (fun _ _ => id) (fun _ => id) (fun s t run safe => ?_) safe h
  cases run with
  | powerOn | commandReset => exact linkSafe_reset _
  | moved moves => exact safe.quiet moves.quiet
  | presented f => exact safe.presented f
  | byte b => exact safe.byteTaken b
  | gap => exact safe.ended.delivered _ _
  | frameEnd => exact safe.frameEnded

end Sys2Proof.Machine
end

section
/-! Regimes are entered only as the table of 02 §2.1 allows: faults lead to SAFE alone, and every other change is one of the
regime controller's own acts, taken from its regime. -/

namespace Sys2Proof.Machine

variable {s t u : State}

/-! ### What a fault report does to the regime (R35, R56) -/

/-- The regime stays, or it falls to SAFE from a regime that may. -/
def Falls (s t : State) : Prop :=
  t.regime.regime = s.regime.regime ∨ (t.regime.regime = .safe ∧ mayEnter s.regime.regime .safe = true)

theorem Falls.refl : Falls s s := .inl rfl

theorem Falls.trans (first : Falls s t) (second : Falls t u) : Falls s u := by
  obtain same | ⟨safe, may⟩ := second
  · unfold Falls
    rw [same]
    exact first
  · obtain before | ⟨-, before⟩ := first
    · exact .inr ⟨safe, before ▸ may⟩
    · exact .inr ⟨safe, before⟩

/-- A write that leaves the regime, after a fall. -/
theorem Falls.same (first : Falls s t) (same : u.regime.regime = t.regime.regime) : Falls s u := first.trans (.inl same)

theorem regimeAfterFault_falls (source : FaultSource) (r : Regime) :
    regimeAfterFault source r = r ∨ (regimeAfterFault source r = .safe ∧ mayEnter r .safe = true) := by
  cases source with
  | wheel w => exact .inl rfl
  | channel c | drive d | brake => cases r <;> simp [regimeAfterFault, faultAbortCause, mayEnter]

variable (s)

theorem faultReport_falls (source : FaultSource) (cause : FaultCause) (value : Int) :
    Falls s (faultReport source cause value s) := by
  unfold Falls
  rw [faultReport_regime]
  exact regimeAfterFault_falls source s.regime.regime

@[simp] theorem homingCheck_regime : (homingCheck s).regime.regime = s.regime.regime := by
  unfold homingCheck
  split <;> simp

theorem faultChannel_falls (c : ChannelId) (cause : FaultCause) (value : Int) : Falls s (faultChannel c cause value s) :=
  Falls.trans (.inl (by simp)) (faultReport_falls _ _ _ _)

theorem rangeCheck_falls (c : ChannelId) : Falls s (rangeCheck c s) := by
  unfold rangeCheck
  split
  · exact .refl
  · split
    · exact faultChannel_falls s c _ _
    · exact .refl

theorem homingTimeout_falls (c : ChannelId) : Falls s (homingTimeout c s) := by
  unfold homingTimeout
  split
  · exact faultChannel_falls s c _ _
  · exact .refl

theorem indexFound_falls (c : ChannelId) : Falls s (indexFound c s) := by
  unfold indexFound
  split
  · exact .inl (by simp)
  · exact .inl (by simp)
  · exact .refl

theorem confirmIndex_falls (c : ChannelId) : Falls s (confirmIndex c s) := by
  unfold confirmIndex
  dsimp only
  split
  · exact .inl (by simp)
  · exact Falls.trans (.inl (by simp)) (faultChannel_falls _ c _ _)

theorem indexEvent_falls (c : ChannelId) : Falls s (indexEvent c s) := by
  unfold indexEvent
  split
  · split
    · exact .inl (by simp)
    · exact .refl
  · exact Falls.trans (.inl (by simp)) (indexFound_falls _ c)
  · exact confirmIndex_falls s c
  · exact confirmIndex_falls s c
  · exact .refl

theorem legalStep_falls (c : ChannelId) (m : LineMove) (lines : LinePair) (z : Bool) : Falls s (legalStep c m lines z s) := by
  unfold legalStep
  dsimp only
  refine Falls.trans ?_ (rangeCheck_falls _ c)
  split
  · exact Falls.trans (.inl (by simp)) (indexEvent_falls _ c)
  · exact .inl (by simp)

theorem lineStep_falls (c : ChannelId) (lines : LinePair) (z : Bool) : Falls s (lineStep c lines z s) := by
  unfold lineStep
  split
  · exact .refl
  · exact .inl (by simp)
  · exact legalStep_falls s c .up lines z
  · exact legalStep_falls s c .down lines z

theorem creepStart_falls (d : DriveId) : Falls s (creepStart d s) := by
  unfold creepStart
  split
  · split
    · exact homingTimeout_falls s _
    · exact .inl (by simp)
  all_goals exact .inl (by simp)

theorem faultBrake_falls (cause : FaultCause) : Falls s (faultBrake cause s) :=
  Falls.trans (.inl rfl) (faultReport_falls _ _ _ _)

theorem brksRiseStep_falls : Falls s (brksRiseStep s) := by
  unfold brksRiseStep
  split
  · exact .inl rfl
  · exact Falls.trans (.inl rfl) (faultBrake_falls _ _)
  all_goals exact .inl rfl

theorem brksFallStep_falls : Falls s (brksFallStep s) := by
  unfold brksFallStep
  split
  · exact .inl rfl
  · exact Falls.trans (.inl rfl) (faultBrake_falls _ _)
  all_goals exact .inl rfl

theorem brakeTimeoutStep_falls : Falls s (brakeTimeoutStep s) := by
  unfold brakeTimeoutStep
  split
  · exact faultBrake_falls s _
  · exact faultBrake_falls s _
  all_goals exact .refl

theorem faultDrive_falls (d : DriveId) (cause : FaultCause) (value : Int) : Falls s (faultDrive d cause value s) :=
  Falls.trans (.inl (by simp)) (faultReport_falls _ _ _ _)

theorem overloadTest_falls (d : DriveId) : Falls s (overloadTest d s) := by
  unfold overloadTest
  split
  · exact faultDrive_falls s d _ _
  · exact .refl

theorem cutPeriod_falls (d : DriveId) : Falls s (cutPeriod d s) := by
  unfold cutPeriod
  split
  · exact overloadTest_falls s d
  · exact Falls.trans (.inl (by simp)) (overloadTest_falls _ d)

theorem driveBoundary_falls (d : DriveId) (line : Bool) : Falls s (driveBoundary d line s) := by
  unfold driveBoundary
  dsimp only
  split
  · exact Falls.trans (.inl (by simp)) (cutPeriod_falls _ d)
  · exact .inl (by simp)

theorem trackingTest_falls (d : DriveId) (full : Bool) (e : Int) : Falls s (trackingTest d full e s) := by
  unfold trackingTest
  split
  · split
    · exact .inl (by simp)
    · split
      · exact faultDrive_falls s d _ _
      · exact .refl
  · exact .inl (by simp)

theorem driveLoop_falls (d : DriveId) : Falls s (driveLoop d s) := by
  have looped : Falls s (match angle s (driveChannel d) with
      | some a => loopComputation d a s
      | none => absentAngleStep d s) := by
    split
    · exact Falls.trans (.inl (by simp)) (trackingTest_falls _ d _ _)
    · exact .inl (by simp)
  unfold driveLoop
  dsimp only
  split
  · exact looped
  · exact looped
  · exact .inl (by simp)
  · exact .refl
  · exact .refl

theorem creepTimeoutTaken_falls (d : DriveId) : Falls s (creepTimeoutTaken d s) := by
  unfold creepTimeoutTaken
  split
  · exact (homingTimeout_falls s (driveChannel d)).same (by simp)
  · exact .refl

@[simp] theorem makeInvalid_regime (w : WheelId) : (makeInvalid w s).regime.regime = s.regime.regime := by
  unfold makeInvalid
  rw [faultReport_regime]
  simp [regimeAfterFault, faultAbortCause]

@[simp] theorem invalidTest_regime (w : WheelId) : (invalidTest w s).regime.regime = s.regime.regime := by
  unfold invalidTest
  split <;> simp

@[simp] theorem followOn_regime (w : WheelId) : (followOn w s).regime.regime = s.regime.regime := by
  unfold followOn
  dsimp only
  split <;> simp

theorem wheelEdgeStep_regime (w : WheelId) : (wheelEdgeStep w s).regime.regime = s.regime.regime := by
  unfold wheelEdgeStep
  split
  · simp
  · split <;> simp
  · rfl

theorem effectIf_falls (b : Bool) {f : State → State} (falls : ∀ u, Falls u (f u)) (before : Falls s t) :
    Falls s (effectIf b f t) := by
  unfold effectIf
  split
  · exact before.trans (falls t)
  · exact before

theorem replaceWorking_falls (c : Calibration) (written : Option Param) : Falls s (replaceWorking c written s) := by
  rw [replaceWorking_eq]
  have unhomes (c : ChannelId) (u : State) : Falls u (unhomeChannel c u) := .inl (by simp)
  have regrids (u : State) : Falls u (gridParameterChanged u) := .inl (by simp)
  have restarts (u : State) : Falls u (reportPeriodChanged u) := .inl rfl
  exact effectIf_falls s _ (rangeCheck_falls · .steer) (effectIf_falls s _ (rangeCheck_falls · .tilt)
    (effectIf_falls s _ (unhomes .bar) (effectIf_falls s _ (unhomes .steer) (effectIf_falls s _ (unhomes .tilt)
      (effectIf_falls s _ regrids (effectIf_falls s _ restarts (.inl rfl)))))))

theorem completeLoad_falls (result : StoreResult) (loaded : Option Calibration) :
    Falls s (completeLoad result loaded s) := by
  cases loaded with
  | none => exact .inl (by simp [completeLoad])
  | some c =>
    have ends (u : State) : (endOperation result u).regime.regime = u.regime.regime := by simp
    exact (replaceWorking_falls s c none).same (ends _)

theorem headerStep_falls (bytes : Vector Byte 8) : Falls s (headerStep bytes s) := by
  unfold headerStep
  split
  · exact completeLoad_falls s _ _
  · exact completeLoad_falls s _ _
  · exact .inl rfl

theorem bodyStep_falls (crc : Half) (body : List Byte) : Falls s (bodyStep crc body s) := by
  unfold bodyStep
  split
  · exact completeLoad_falls s _ _
  · split
    · exact completeLoad_falls s _ _
    · exact completeLoad_falls s _ _

/-! ### The table (02 §2.1, R37) -/

/-- The regime stays or is entered as the table allows, and UNLOCKING only when ready. -/
structure Follows (s t : State) : Prop where
  table : t.regime.regime = s.regime.regime ∨ mayEnter s.regime.regime t.regime.regime = true
  ready : t.regime.regime = .unlocking → s.regime.regime ≠ .unlocking →
    allHomed s = true ∧ faultLatched s = false ∧ s.drives.brake.state = .engaged

variable {s}

theorem Follows.of_same (same : t.regime.regime = s.regime.regime) : Follows s t :=
  ⟨.inl same, fun unlocking other => absurd (same ▸ unlocking) other⟩

theorem Follows.of_enter {r r' : Regime} (before : s.regime.regime = r) (after : t.regime.regime = r')
    (may : mayEnter r r' = true) (other : r' ≠ .unlocking) : Follows s t :=
  ⟨.inr (by rw [before, after]; exact may), fun unlocking => absurd (after ▸ unlocking) other⟩

theorem Falls.follows (h : Falls s t) : Follows s t := by
  obtain same | ⟨safe, may⟩ := h
  · exact .of_same same
  · exact .of_enter rfl safe may (by simp)

/-- What the table reads is all that it depends on. -/
theorem Follows.from {s' : State} (h : Follows s' t) (channels : s'.channels = s.channels) (wheels : s'.wheels = s.wheels)
    (drives : s'.drives = s.drives) (regime : s'.regime = s.regime) : Follows s t := by
  obtain ⟨table, ready⟩ := h
  constructor
  · rw [← regime]; exact table
  · rw [← regime]
    simpa [allHomed, faultLatched, channels, wheels, drives] using ready

theorem Follows.same (h : Follows s t) (same : u.regime.regime = t.regime.regime) : Follows s u :=
  ⟨by rw [same]; exact h.table, by rw [same]; exact h.ready⟩

variable (s)

/-! ### The regime controller's own acts -/

@[simp] theorem changeRegime_regime (r : Regime) (cause : Option AbortCause) :
    (changeRegime r cause s).regime.regime = r := by simp [changeRegime]

@[simp] theorem enterParked_regime : (enterParked s).regime.regime = .parked := by simp [enterParked]

@[simp] theorem leaveInitStep_regime : (leaveInitStep s).regime.regime = .parked := by simp [leaveInitStep]

@[simp] theorem finishCapture_regime : (finishCapture s).regime.regime = .uprightHold := by simp [finishCapture]

@[simp] theorem safeTiltOff_regime : (safeTiltOff s).regime.regime = s.regime.regime := by simp [safeTiltOff]

theorem transientAbort_follows (cause : AbortCause) (speed : Nat) (release : s.regime.regime = .release) :
    Follows s (transientAbort cause speed s) := by
  unfold transientAbort
  dsimp only
  split
  · exact .of_enter release (by simp) (by rfl : mayEnter .release .uprightHold = true) (by simp)
  · exact .of_enter release (by simp) (by rfl : mayEnter .release .capture = true) (by simp)

theorem ridingSample_follows (x : Sample) (step : State → State) (may : mayEnter s.regime.regime .safe = true)
    (follows : Follows s (step s)) : Follows s (ridingSample x step s) := by
  unfold ridingSample
  split
  · exact .of_enter rfl (by simp) may (by simp)
  · exact follows

theorem dwellStep_follows (v : Nat) (hold : s.regime.regime = .uprightHold) : Follows s (dwellStep v s) := by
  unfold dwellStep
  split
  · split
    · exact .of_same rfl
    · split
      · exact .of_enter hold (by simp [startRelease]) (by rfl : mayEnter .uprightHold .release = true) (by simp)
      · exact .of_same rfl
  · exact .of_same rfl

theorem releaseStep_follows (x : Sample) (release : s.regime.regime = .release) : Follows s (releaseStep x s) := by
  unfold releaseStep
  split
  · exact transientAbort_follows s _ _ release
  · exact .of_same rfl

theorem takeSample_follows (x : Sample) : Follows s (takeSample x s) := by
  have kept {t : State} (h : Follows (putRegime { s.regime with latest := some x } s) t) : Follows s t :=
    ⟨h.table, h.ready⟩
  refine kept ?_
  show Follows _ (takeSample x s)
  unfold takeSample
  dsimp only
  split
  · exact .of_same rfl
  · exact .of_same rfl
  · exact .of_same rfl
  · next regime => exact ridingSample_follows _ x id (by simp [regime, mayEnter]) (.of_same rfl)
  · next hold => exact ridingSample_follows _ x _ (by simp [hold, mayEnter]) (dwellStep_follows _ _ hold)
  · next release => exact ridingSample_follows _ x _ (by simp [release, mayEnter]) (releaseStep_follows _ _ release)
  · next free =>
    refine ridingSample_follows _ x _ (by simp [free, mayEnter]) ?_
    split
    · exact .of_enter free (by simp [startCapture]) (by rfl : mayEnter .freeLean .capture = true) (by simp)
    · exact .of_same rfl
  · next regime => exact ridingSample_follows _ x id (by simp [regime, mayEnter]) (.of_same rfl)
  · next regime => exact ridingSample_follows _ x id (by simp [regime, mayEnter]) (.of_same rfl)
  · refine .of_same ?_
    unfold safeSampleStep
    split <;> rfl

theorem brakeReleasedStep_follows : Follows s (brakeReleasedStep s) := by
  unfold brakeReleasedStep
  split
  · next unlocking =>
    exact .of_enter unlocking (by simp) (by rfl : mayEnter .unlocking .uprightHold = true) (by simp)
  · have begun : Falls s (setPhase (some .creep) s) := .inl rfl
    exact (((begun.trans (creepStart_falls _ .tilt)).trans (creepStart_falls _ .steer)).same (by simp)).follows
  · exact .of_same rfl

theorem brakeEngagedStep_follows : Follows s (brakeEngagedStep s) := by
  unfold brakeEngagedStep
  split
  · next locking => exact .of_enter locking (by simp) (by rfl : mayEnter .locking .parked = true) (by simp)
  · next homing => exact .of_enter homing (by simp) (by rfl : mayEnter .homing .parked = true) (by simp)
  · exact .of_same (by simp)
  · exact .of_same rfl

/-! ### Requests (R37, R50, R52, R61) -/

@[simp] theorem refuse_regime (k : RequestKind) (code : RefusalCode) : (refuse k code s).regime = s.regime := by simp

/-- RIDE passes its checks only when everything is ready (R37). -/
theorem ready_of_rideRefusal (accepted : rideRefusal s = none) :
    allHomed s = true ∧ faultLatched s = false ∧ s.drives.brake.state = .engaged := by
  unfold rideRefusal at accepted
  split at accepted
  · contradiction
  split at accepted
  · contradiction
  split at accepted
  · contradiction
  split at accepted
  · contradiction
  split at accepted
  · contradiction
  · next homed fault =>
    obtain ⟨latched, -, engaged⟩ := by simpa using fault
    exact ⟨by simpa using homed, latched, engaged⟩

theorem takeRide_follows : Follows s (takeRide s) := by
  unfold takeRide
  split
  · exact .of_same (by simp)
  · next passes =>
    have after : (accept .ride (rideStep s)).regime.regime = .unlocking := by simp [rideStep]
    refine ⟨.inr ?_, fun _ _ => ready_of_rideRefusal s passes⟩
    rw [after, parked_of_rideRefusal s passes]
    rfl

theorem takePark_follows : Follows s (takePark s) := by
  have parks : ((accept (.park false) (startLocking s)).regime).regime = .locking := by simp [startLocking]
  unfold takePark
  split
  · exact .of_same (by simp)
  · exact .of_same (by simp)
  · next unlocking => exact .of_enter unlocking parks (by rfl : mayEnter .unlocking .locking = true) (by simp)
  · next hold =>
    split
    · exact .of_enter hold parks (by rfl : mayEnter .uprightHold .locking = true) (by simp)
    · exact .of_same (by simp)
  · next release => exact (transientAbort_follows s .parkRequest (speedNow s) release).same (by simp)
  all_goals exact .of_same (by simp)

theorem takeHome_follows : Follows s (takeHome s) := by
  unfold takeHome
  split
  · exact .of_same (by simp)
  · next passes =>
    exact .of_enter (parked_of_homeRefusal s passes) (by simp [homeStep]) (by rfl : mayEnter .parked .homing = true) (by simp)

theorem takeClear_follows : Follows s (takeClear s) := by
  unfold takeClear
  split
  · exact .of_same (by simp)
  · next passes =>
    have after : (clearStep s).regime.regime = .parked := by
      rw [clearStep_eq]
      split
      · next parked => exact parked
      · simp
    obtain parked | safe := regime_of_clearRefusal s passes
    · exact .of_same (by simp [after, parked])
    · exact .of_enter safe (by simp [after]) (by rfl : mayEnter .safe .parked = true) (by simp)

theorem takeRequest_follows (k : RequestKind) (payload : List Byte) : Follows s (takeRequest k payload s) := by
  cases k with
  | ride => exact takeRide_follows s
  | park => exact takePark_follows s
  | home => exact takeHome_follows s
  | clear => exact takeClear_follows s
  | paramSet =>
    refine Falls.follows ?_
    show Falls s (takeParamSet _ _ s)
    unfold takeParamSet
    split
    · exact .inl (by simp)
    · split
      · exact .inl (by simp)
      · split
        · exact .inl (by simp)
        · next p _ _ =>
          exact (replaceWorking_falls s { s.store.working with params := writeParam (par s) p (halfAt payload 1).toNat }
            (some p)).same (by simp)
  | motion | align | paramGet | mapSet | mapGet | counterSet | counterRead | counterClear | historyRead | status | save
  | load | reset => exact .of_same (by simp [takeRequest])

theorem handOver_follows (f : Frame) : Follows s (handOver f s) := by
  unfold handOver
  split
  · exact .of_same (by simp)
  · split
    · exact takeRequest_follows s _ _
    · exact .of_same (by simp)

variable {s}

/-- With one frame waiting, handover takes it when it may (R194). -/
theorem proceedHandover_of_one (f : Frame) (queue : u.link.receiveQueue = [f]) :
    proceedHandover u = if mayTake f u.link then handOver f (setReceiveQueue [] u) else u := by
  unfold proceedHandover
  rw [queue]
  simp only [List.length_singleton, handOverWaiting, queue]

theorem proceedHandover_follows (f : Frame) (queue : u.link.receiveQueue = [f]) (channels : u.channels = s.channels)
    (wheels : u.wheels = s.wheels) (drives : u.drives = s.drives) (regime : u.regime = s.regime) :
    Follows s (proceedHandover u) := by
  rw [proceedHandover_of_one f queue]
  split
  · exact (handOver_follows (setReceiveQueue [] u) f).from channels wheels drives regime
  · exact .of_same (by rw [regime])

theorem presentFrame_follows (f : Frame) (empty : s.link.receiveQueue = []) : Follows s (presentFrame f s) := by
  unfold presentFrame
  rw [empty, if_pos (by simp), List.nil_append]
  exact proceedHandover_follows (u := setReceiveQueue [f] s) f rfl rfl rfl rfl rfl

theorem deliver_receiveQueue (s : State) (e : CounterEvent) (kinds : Byte) :
    (deliver e kinds s).link.receiveQueue = s.link.receiveQueue := (deliver_moves s e kinds).quiet.receiveQueue

theorem goodFrame_follows (f : Frame) (empty : s.link.receiveQueue = []) : Follows s (goodFrame f s) := by
  unfold goodFrame
  rw [empty, if_pos (by simp), List.nil_append]
  have queue := deliver_receiveQueue (setReceiveQueue [f] s) .linkFrame (frameKinds true false false false false)
  exact proceedHandover_follows f queue (by simp) (by simp) (by simp) (by simp)

theorem linkByteStep_follows (b : Byte) (empty : s.link.receiveQueue = []) : Follows s (linkByteStep b s) := by
  have good (f : Frame) : Follows s (goodFrame f (endAssembly s)) :=
    (goodFrame_follows f (s := endAssembly s) empty).from rfl rfl rfl rfl
  unfold linkByteStep
  split
  · split <;> exact .of_same rfl
  · split
    · exact .of_same rfl
    · exact .of_same (by simp)
  · exact .of_same rfl
  · exact .of_same rfl
  · exact .of_same rfl
  · unfold crcVerdict
    split
    · exact good _
    · exact .of_same (by simp)

theorem Follows.of_reset (init : t.regime.regime = .init) : Follows s t :=
  .of_enter rfl init rfl (by simp)

theorem transmitEndStep_follows (empty : s.link.receiveQueue = []) : Follows s (transmitEndStep s) := by
  unfold transmitEndStep
  split
  · exact .of_reset rfl
  · split
    · exact .of_same rfl
    · exact .of_same rfl
    · rw [proceedHandover_of_empty]
      · exact .of_same rfl
      · obtain ⟨-, -, queue, -, -⟩ := selectToSend_fields { s.link with transmitter := none }
        exact queue.trans empty

/-- A command that acts only when it is due follows the table as its act does. -/
theorem Follows.due (due : Bool) (f : State → State) (follows : due = true → Follows s (f s)) :
    Follows s (if due = true then f s else s) := by
  split
  · next h => exact follows h
  · exact .of_same rfl

/-- Every command follows the table. -/
theorem exec_follows (c : Instr) (empty : s.link.receiveQueue = []) (h : exec c s = .next t) : Follows s t := by
  cases c with
  | powerOnReset levels => exact Host.Outcome.next.inj h ▸ .of_reset rfl
  | commandReset =>
    rw [← Host.Outcome.next.inj h]
    split
    · exact .of_reset rfl
    · exact .of_same rfl
  | linkByte b => exact Host.Outcome.next.inj h ▸ linkByteStep_follows b empty
  | gapTimerExpiry =>
    rw [← Host.Outcome.next.inj h]
    split <;> exact .of_same (by simp)
  | transmitEnd => exact Host.Outcome.next.inj h ▸ transmitEndStep_follows empty
  | unknownKind | motion | align | ride | park | home | clear | paramSet | paramGet | mapSet | mapGet | counterSet
  | counterRead | counterClear | historyRead | status | save | load | reset =>
    exact Host.Outcome.next.inj h ▸ presentFrame_follows _ empty
  | statusTimerExpiry => exact Host.Outcome.next.inj h ▸ .due _ _ fun _ => .of_same rfl
  | strobe => exact Host.Outcome.next.inj h ▸ .of_same (by simp)
  | missedStrobe =>
    rw [← Host.Outcome.next.inj h]
    split <;> exact .of_same (by simp)
  | freshnessDeadlineExpiry => exact Host.Outcome.next.inj h ▸ .due _ _ fun _ => .of_same (by simp)
  | lineEvent c lines z => exact Host.Outcome.next.inj h ▸ (lineStep_falls s c lines z).follows
  | suspectTimerExpiry c =>
    rw [← Host.Outcome.next.inj h]
    split
    · exact (faultChannel_falls s c _ _).follows
    · exact .of_same rfl
  | wheelEdge w => exact Host.Outcome.next.inj h ▸ .of_same (wheelEdgeStep_regime s w)
  | stopTimerExpiry w => exact Host.Outcome.next.inj h ▸ .due _ _ fun _ => .of_same (by simp)
  | lawExpiry =>
    refine Host.Outcome.next.inj h ▸ .due _ _ fun _ => ?_
    rw [lawStep_eq]
    exact (takeSample_follows _ _).from (by simp) (by simp) (by simp) (by simp)
  | releaseBlendExpiry =>
    rw [← Host.Outcome.next.inj h]
    split
    · next due =>
      exact .of_enter (blendDue_regime s due) (by simp) (by rfl : mayEnter .release .freeLean = true) (by simp)
    · exact .of_same rfl
  | captureBlendExpiry =>
    exact Host.Outcome.next.inj h ▸ .due _ _ fun due =>
      .of_enter (blendDue_regime s due) (by simp) (by rfl : mayEnter .capture .uprightHold = true) (by simp)
  | leaveInit =>
    exact Host.Outcome.next.inj h ▸ .due _ _ fun due =>
      .of_enter (of_decide_eq_true due).1 (by simp) (by rfl : mayEnter .init .parked = true) (by simp)
  | brakeReleased tside sside =>
    rw [← Host.Outcome.next.inj h]
    split
    · exact (brakeReleasedStep_follows _).from rfl rfl rfl rfl
    · exact .of_same rfl
  | brakeEngaged => exact Host.Outcome.next.inj h ▸ .due _ _ fun _ => brakeEngagedStep_follows s
  | pwmBoundary toc soc =>
    rw [← Host.Outcome.next.inj h]
    split
    · have begun : Falls s (beginPeriod toc soc s) := .inl rfl
      exact ((begun.trans (driveBoundary_falls _ .tilt toc)).trans (driveBoundary_falls _ .steer soc)).follows
    · exact .of_same rfl
  | loopExpiry tside sside =>
    rw [← Host.Outcome.next.inj h]
    split
    · have begun : Falls s (beginLoop (sampleSides tside sside s)) := .inl rfl
      exact ((begun.trans (driveLoop_falls _ .tilt)).trans (driveLoop_falls _ .steer)).follows
    · exact .of_same rfl
  | overcurrentCut d =>
    rw [← Host.Outcome.next.inj h]
    split
    · exact (cutPeriod_falls s d).follows
    · exact .of_same rfl
  | creepTimerExpiry d =>
    rw [← Host.Outcome.next.inj h]
    split
    · exact (Falls.trans (.inl (by simp)) (creepTimeoutTaken_falls _ d)).follows
    · exact .of_same rfl
  | brksRise => exact Host.Outcome.next.inj h ▸ (brksRiseStep_falls s).follows
  | brksFall => exact Host.Outcome.next.inj h ▸ (brksFallStep_falls s).follows
  | brakeTimerExpiry => exact Host.Outcome.next.inj h ▸ .due _ _ fun _ => (brakeTimeoutStep_falls s).follows
  | millisecondTimerExpiry i =>
    rw [← Host.Outcome.next.inj h]
    split <;> exact .of_same (by simp)
  | readStatusDone b => exact Host.Outcome.next.inj h ▸ .of_same (by simp)
  | pollLimitExpiry => exact Host.Outcome.next.inj h ▸ .due _ _ fun _ => .of_same (by simp)
  | headerReadDone bytes =>
    rw [← Host.Outcome.next.inj h]
    split
    · exact (headerStep_falls s bytes).follows
    · exact .of_same rfl
  | bodyReadDone body =>
    rw [← Host.Outcome.next.inj h]
    split
    · split
      · exact (bodyStep_falls s _ body).follows
      · exact .of_same rfl
    · exact .of_same rfl
  | writeEnableDone =>
    rw [← Host.Outcome.next.inj h]
    split <;> exact .of_same rfl
  | sectorEraseDone | pageProgramDone =>
    rw [← Host.Outcome.next.inj h]
    split <;> exact .of_same rfl
  | verifyReadDone bytes =>
    rw [← Host.Outcome.next.inj h]
    split <;> exact .of_same (by simp)

/-- Settles O13: every command follows the table. -/
theorem regimeChangesFollowTheTable : Obligations.RegimeChangesFollowTheTable := by
  unfold Obligations.RegimeChangesFollowTheTable
  intro c s t empty h
  obtain ⟨table, ready⟩ := exec_follows c empty h
  exact ⟨table, ready⟩

end Sys2Proof.Machine
end

section
/-! Steps and resets: what a step takes, what is due, and the states that both resets leave. -/

namespace Sys2Proof.Machine

variable (s : State)

/-- Settles O1: the queue decides the branch of the step. -/
theorem stepRunsTheFrontCommand : Obligations.StepRunsTheFrontCommand := by
  unfold Obligations.StepRunsTheFrontCommand
  intro c rest s
  rfl

/-! ### What is due (logs 2, 3 and 5) -/

theorem some_eq_dueIf (b : Bool) (c d : Instr) : some c = dueIf b d ↔ c = d ∧ b = true := by
  cases b <;> simp [dueIf]

theorem leaveInitDue_iff : leaveInitDue s = true ↔ isDue s .leaveInit := decide_eq_true_iff

theorem releasedDue_iff (tside sside : Bool) :
    (tside = s.pins.tside ∧ sside = s.pins.sside) ∧ releasedDue s = true ↔ isDue s (.brakeReleased tside sside) := by
  unfold releasedDue isDue
  rw [decide_eq_true_iff, and_assoc]

theorem engagedDue_iff : engagedDue s = true ↔ isDue s .brakeEngaged := decide_eq_true_iff

theorem gapDue_iff : gapDue s = true ↔ isDue s .gapTimerExpiry := decide_eq_true_iff

theorem windowDue_iff : windowDue s = true ↔ isDue s .missedStrobe := by
  unfold windowDue isDue finePosition
  rw [decide_eq_true_iff, Option.map_eq_some_iff]

theorem deadlineDue_iff : deadlineDue s = true ↔ isDue s .freshnessDeadlineExpiry := decide_eq_true_iff

theorem suspectDue_iff (c : ChannelId) : suspectDue s c = true ↔ isDue s (.suspectTimerExpiry c) := by
  unfold suspectDue suspectTimer isDue
  rw [decide_eq_true_iff]
  by_cases suspect : (getChannel s c).state = .suspect
  · rw [if_pos suspect, Option.map_eq_some_iff]
    simp only [suspect, true_and, eq_comm]
  · simp [suspect]

theorem stopDue_iff_isDue (w : WheelId) : stopDue s w = true ↔ isDue s (.stopTimerExpiry w) := by
  unfold stopDue stopTimer isDue
  rw [decide_eq_true_iff]
  by_cases rolling : (getWheel s w).state = .rolling <;> simp [rolling, eq_comm]

theorem blendDue_iff (r : Regime) (k : BlendKind) :
    blendDue s r k = true ↔
      s.regime.regime = r ∧ ∃ b, s.regime.blend = some b ∧ b.kind = k ∧ b.expiry = now s := by
  unfold blendDue
  cases s.regime.blend <;> simp

theorem lawDue_iff : lawDue s = true ↔ isDue s .lawExpiry := decide_eq_true_iff

theorem loopDue_iff (tside sside : Bool) :
    (tside = s.pins.tside ∧ sside = s.pins.sside) ∧ loopDue s = true ↔ isDue s (.loopExpiry tside sside) := by
  unfold loopDue isDue
  rw [decide_eq_true_iff, and_assoc]

theorem boundaryDue_iff (toc soc : Bool) :
    (toc = s.pins.toc ∧ soc = s.pins.soc) ∧ boundaryDue s = true ↔ isDue s (.pwmBoundary toc soc) := by
  unfold boundaryDue isDue
  rw [decide_eq_true_iff, and_assoc]

theorem creepDue_iff (d : DriveId) : creepDue s d = true ↔ isDue s (.creepTimerExpiry d) := decide_eq_true_iff

theorem brakeTimerDue_iff : brakeTimerDue s = true ↔ isDue s .brakeTimerExpiry := decide_eq_true_iff

theorem pollLimitDue_iff : pollLimitDue s = true ↔ isDue s .pollLimitExpiry := decide_eq_true_iff

theorem statusDue_iff : statusDue s = true ↔ isDue s .statusTimerExpiry := decide_eq_true_iff

theorem millisecondDue_iff (i : Fin 8) : millisecondDue s i = true ↔ isDue s (.millisecondTimerExpiry i) := by
  unfold millisecondDue millisecondTimer isDue
  rw [decide_eq_true_iff, Option.map_eq_some_iff]
  simp only [eq_comm]

/-- The eight counters, one by one. -/
theorem counter_cases : ∀ i : Fin 8, i = 0 ∨ i = 1 ∨ i = 2 ∨ i = 3 ∨ i = 4 ∨ i = 5 ∨ i = 6 ∨ i = 7 := by decide

/-- An event stands in the list of due events exactly when it is due. -/
theorem some_mem_dueEvents (c : Instr) : some c ∈ dueEvents s ↔ isDue s c := by
  simp only [dueEvents, List.mem_cons, List.not_mem_nil, or_false, some_eq_dueIf]
  cases c with
  | leaveInit => simpa using leaveInitDue_iff s
  | brakeReleased tside sside => simpa using releasedDue_iff s tside sside
  | brakeEngaged => simpa using engagedDue_iff s
  | gapTimerExpiry => simpa using gapDue_iff s
  | missedStrobe => simpa using windowDue_iff s
  | freshnessDeadlineExpiry => simpa using deadlineDue_iff s
  | suspectTimerExpiry c => cases c <;> simpa using suspectDue_iff s _
  | stopTimerExpiry w => cases w <;> simpa using stopDue_iff_isDue s _
  | creepTimerExpiry d => cases d <;> simpa using creepDue_iff s _
  | brakeTimerExpiry => simpa using brakeTimerDue_iff s
  | pollLimitExpiry => simpa using pollLimitDue_iff s
  | statusTimerExpiry => simpa using statusDue_iff s
  | millisecondTimerExpiry i =>
    obtain rfl | rfl | rfl | rfl | rfl | rfl | rfl | rfl := counter_cases i <;> simpa using millisecondDue_iff s _
  | releaseBlendExpiry => simpa [isDue] using blendDue_iff s .release .release
  | captureBlendExpiry => simpa [isDue] using blendDue_iff s .capture .capture
  | lawExpiry => simpa using lawDue_iff s
  | loopExpiry tside sside => simpa using loopDue_iff s tside sside
  | pwmBoundary toc soc => simpa using boundaryDue_iff s toc soc
  | _ => simp [isDue]

theorem step_of_due {c : Instr} (empty : s.pending = []) (due : nextDue s = some c) : step s = exec c s := by
  unfold step
  rw [empty, due]

theorem step_of_idle (empty : s.pending = []) (idle : nextDue s = none) : step s = .next (tick s) := by
  unfold step
  split
  · next queue => rw [empty] at queue; contradiction
  · rw [idle]

/-- Settles O2: the next due event is the first of a list that holds exactly the events that are due. -/
theorem stepOnAnEmptyQueue : Obligations.StepOnAnEmptyQueue := by
  unfold Obligations.StepOnAnEmptyQueue
  intro s
  refine ⟨fun empty => ⟨fun c => step_of_due s empty, step_of_idle s empty⟩, fun c due => ?_, ?_⟩
  · obtain ⟨e, mem, eq⟩ := List.exists_of_findSome?_eq_some due
    exact (some_mem_dueEvents s c).mp (eq ▸ mem)
  · rw [nextDue, List.findSome?_eq_none_iff]
    constructor
    · intro absent c due
      have none := absent _ ((some_mem_dueEvents s c).mpr due)
      simp at none
    · intro idle e mem
      cases e with
      | none => rfl
      | some c => exact absurd ((some_mem_dueEvents s c).mp mem) (idle c)

/-! ### Resets (R207, R220, R224) -/

/-- Settles O3: the reset state is the tables' records. -/
theorem resetValues : Obligations.ResetValues := by
  unfold Obligations.ResetValues
  refine ⟨rfl, rfl, rfl, rfl, rfl, rfl, rfl, rfl, rfl, fun i => ?_, rfl, rfl⟩
  exact Vector.getElem_replicate _

theorem resetReplySending_of {s : State} (closed : s.link.handover = .closed)
    (sending : s.link.transmitter = some ⟨⟨0x80, [0x7F]⟩, []⟩) : resetReplySending s.link = true := by
  unfold resetReplySending
  rw [closed, sending]
  rfl

/-- The status timer after a command reset runs REPORT_PERIOD ms from local time 0 (R200, R207). -/
theorem resetStatusTimer_eq (period : Nat) :
    resetStatusTimer period = if period = 0 then none else some (BitVec.ofNat 48 (1000 * period)) := by
  unfold resetStatusTimer after
  simp

/-- Settles O4: both resets write every block's record, and the end of the RESET reply is the command reset. -/
theorem resetStates : Obligations.ResetStates := by
  unfold Obligations.ResetStates
  refine ⟨fun levels s => ⟨powerOnState levels s.pending, rfl, rfl, rfl, rfl, ?_, ?_, ?_, rfl, rfl, rfl, rfl, rfl, rfl, rfl, rfl⟩,
    fun s closed sending => ?_⟩
  · exact (resetDrivesAt_fields levels.pins.brks).2.2
  · exact (resetDrivesAt_fields levels.pins.brks).1
  · exact (resetDrivesAt_fields levels.pins.brks).2.1
  · have ends := resetReplySending_of closed sending
    have command : exec .commandReset s = .next (commandResetState s) := by
      rw [exec_commandReset, execCommandReset, if_pos ends]
    have frame : exec .transmitEnd s = .next (commandResetState s) := by
      rw [exec_transmitEnd, execTransmitEnd, transmitEndStep, if_pos ends]
    obtain ⟨tilt, steer, brake⟩ := resetDrivesAt_fields s.pins.brks
    refine ⟨command.trans frame.symm, commandResetState s, command, rfl, rfl, rfl, ?_, rfl, brake, tilt, steer, rfl, rfl,
      rfl, rfl, rfl, rfl⟩
    rw [← resetStatusTimer_eq]
    rfl

/-- Settles O5: the reset records are the ones that the invariants of O6 to O12 start from. -/
theorem resetIsSafe : Obligations.ResetIsSafe := by
  unfold Obligations.ResetIsSafe
  exact ⟨linkSafe_reset _, storeSafe_powerOn,
    limitsSafe_of_reset _ rfl rfl rfl rfl, regimeSafe_of_reset _ rfl rfl, drivesSafe_of_reset _ true rfl,
    conditionsSafe_of_reset _ true rfl rfl rfl rfl rfl, recordsSafe_of_reset _ _ _ _ rfl rfl rfl rfl rfl⟩

end Sys2Proof.Machine
end

section
/-! The ends of frames and handover after them (R194, R197, R198, R200, R207). -/

namespace Sys2Proof.Machine

variable (s : State)

/-- One frame waiting that may be taken is handed over. -/
theorem proceedHandover_of_taken_one {u : State} {g : Frame} (queue : u.link.receiveQueue = [g])
    (takes : mayTake g u.link = true) : proceedHandover u = handOver g (setReceiveQueue [] u) := by
  rw [proceedHandover_of_one g queue, if_pos takes]

/-- The selection after a frame takes one reply of a full queue, so that there is room again (R197). -/
theorem selectToSend_makes_room (l : Link) (idle : l.transmitter = none) (full : l.replyQueue.length = 4) :
    (selectToSend l).replyQueue.length = 3 := by
  cases queue : l.replyQueue with
  | nil => simp [queue] at full
  | cons r rest =>
    obtain ⟨f, more, frames⟩ := replyFrames_cons r
    rw [selectToSend_of_reply l idle queue, frames]
    simpa [startSending, queue] using full

/-- Handover goes on after the head frame, whatever the frame is (R194). -/
theorem proceedHandover_of_head {g : Frame} {rest : List Frame} (head : s.link.receiveQueue = g :: rest)
    (takes : mayTake g s.link = true) :
    proceedHandover s = proceedHandover (handOver g (setReceiveQueue rest s)) :=
  proceedHandover_of_takes s head takes (handOver_receiveQueue g _)

theorem execTransmitEnd_of_last {f : Frame} (sending : s.link.transmitter = some ⟨f, []⟩)
    (goesOn : resetReplySending s.link = false) :
    exec .transmitEnd s = .next (proceedHandover { s with link := selectToSend { s.link with transmitter := none } }) := by
  rw [exec_transmitEnd, execTransmitEnd, transmitEndStep_of_last s sending goesOn]

/-- The end of a reply that filled the queue lets the one waiting frame through (R194, R197). -/
theorem execTransmitEnd_of_full {f g : Frame} (opened : s.link.handover = .opened)
    (sending : s.link.transmitter = some ⟨f, []⟩) (queue : s.link.receiveQueue = [g]) (full : s.link.replyQueue.length = 4) :
    exec .transmitEnd s =
      .next (handOver g { s with link := { selectToSend { s.link with transmitter := none } with receiveQueue := [] } }) := by
  obtain ⟨-, -, receiveQueue, handover, -⟩ := selectToSend_fields { s.link with transmitter := none }
  have room := selectToSend_makes_room { s.link with transmitter := none } rfl full
  have takes : mayTake g (selectToSend { s.link with transmitter := none }) = true :=
    (mayTake_iff g _).mpr ⟨handover.trans opened, .inr (by omega)⟩
  rw [execTransmitEnd_of_last s sending (resetReplySending_of_opened _ opened),
    proceedHandover_of_taken_one (receiveQueue.trans queue) takes]
  rfl

/-- While handover is CLOSED no frame is handed over (R194). -/
theorem execTransmitEnd_of_closed {f : Frame} (closed : s.link.handover = .closed)
    (sending : s.link.transmitter = some ⟨f, []⟩) (other : f ≠ ⟨0x80, [0x7F]⟩) :
    exec .transmitEnd s = .next { s with link := selectToSend { s.link with transmitter := none } } := by
  obtain ⟨-, -, -, handover, -⟩ := selectToSend_fields { s.link with transmitter := none }
  rw [execTransmitEnd_of_last s sending (resetReplySending_of_ne _ sending other),
    proceedHandover_of_closed _ (handover.trans closed)]

/-- Settles O19: the end of a frame by what is being sent, handover by its head frame, and LTX bit by bit. -/
theorem transmitterEvents : Obligations.TransmitterEvents := by
  unfold Obligations.TransmitterEvents
  refine ⟨fun s due => ?_, fun s opened => ?_, fun s closed => ?_, fun s => ?_, fun l => ⟨ltxHigh_of_idle l, ?_⟩, ?_⟩
  · rw [exec_statusTimerExpiry, execStatusTimerExpiry_of_due s due, statusTimerStep, postLink]
  · refine ⟨fun idle => ?_, fun f g rest sending => ?_, fun f sending empty => ?_, fun f g sending queue full => ?_,
      fun f sending => ?_⟩
    · rw [exec_transmitEnd, execTransmitEnd, transmitEndStep_of_idle s idle]
    · rw [exec_transmitEnd, execTransmitEnd, transmitEndStep_of_more s sending]
    · obtain ⟨-, -, receiveQueue, -, -⟩ := selectToSend_fields { s.link with transmitter := none }
      rw [execTransmitEnd_of_last s sending (resetReplySending_of_opened _ opened),
        proceedHandover_of_empty _ (receiveQueue.trans empty)]
    · exact execTransmitEnd_of_full s opened sending queue full
    · exact execTransmitEnd_of_last s sending (resetReplySending_of_opened _ opened)
  · refine ⟨fun idle => ?_, fun f g rest sending => ?_, fun f sending other => ?_⟩
    · rw [exec_transmitEnd, execTransmitEnd, transmitEndStep_of_idle s idle]
    · rw [exec_transmitEnd, execTransmitEnd, transmitEndStep_of_more s sending]
    · exact execTransmitEnd_of_closed s closed sending other
  · refine ⟨fun empty => proceedHandover_of_empty s empty, fun g rest queue => ⟨fun opened free => ?_, fun waits => ?_⟩⟩
    · exact proceedHandover_of_head s queue ((mayTake_iff g s.link).mpr ⟨opened, free⟩)
    · refine proceedHandover_of_waits s queue (Bool.eq_false_iff.mpr fun takes => ?_)
      obtain ⟨opened, free⟩ := (mayTake_iff g s.link).mp takes
      obtain closed | ⟨kind, full⟩ := waits
      · rw [opened] at closed
        contradiction
      · exact free.elim kind (Nat.not_lt.mpr full)
  · intro f more sending
    refine ⟨length_frameBits f, fun k b char => ?_⟩
    obtain ⟨start, data, stop⟩ := characterBits_getD b
    refine ⟨?_, fun j inside => ?_, ?_⟩
    · exact (ltxHigh_of_sending l sending char 0 (by omega)).trans start
    · rw [Nat.add_assoc, ltxHigh_of_sending l sending char (1 + j) (by omega)]
      exact data j inside
    · exact (ltxHigh_of_sending l sending char 9 (by omega)).trans stop
  · exact receivedByte_characterBits

end Sys2Proof.Machine
end

section
/-! The requests of the regime controller: RIDE, PARK and HOME, check by check, and the states they leave (R37, R38, R47, R50,
R52). -/

namespace Sys2Proof.Machine

variable (s : State)

/-! ### Faults and homed channels (R37) -/

theorem allHomed_iff : allHomed s = true ↔ ∀ c, (getChannel s c).state = .homed := by
  simp only [allHomed, Bool.and_eq_true, beq_iff_eq]
  constructor
  · rintro ⟨⟨tilt, steer⟩, bar⟩ c
    cases c
    · exact tilt
    · exact steer
    · exact bar
  · exact fun all => ⟨⟨all .tilt, all .steer⟩, all .bar⟩

theorem exists_drive_iff (P : Drive → Prop) : (∃ d, P (getDrive s d)) ↔ P s.drives.tilt ∨ P s.drives.steer := by
  constructor
  · rintro ⟨d, h⟩
    cases d
    · exact .inl h
    · exact .inr h
  · rintro (h | h)
    · exact ⟨.tilt, h⟩
    · exact ⟨.steer, h⟩

theorem exists_wheel_iff (P : Wheel → Prop) :
    (∃ w, P (getWheel s w)) ↔ P s.wheels.fl ∨ P s.wheels.fr ∨ P s.wheels.rr := by
  constructor
  · rintro ⟨w, h⟩
    cases w
    · exact .inl h
    · exact .inr (.inl h)
    · exact .inr (.inr h)
  · rintro (h | h | h)
    · exact ⟨.fl, h⟩
    · exact ⟨.fr, h⟩
    · exact ⟨.rr, h⟩

theorem faultLatched_iff :
    faultLatched s = true ↔ (∃ d, (getDrive s d).mode = .fault) ∨ s.drives.brake.state = .brakeFault ∨
      ∃ w, (getWheel s w).state = .invalid := by
  rw [exists_drive_iff s (fun r => r.mode = .fault), exists_wheel_iff s (fun w => w.state = .invalid)]
  simp only [faultLatched, Bool.or_eq_true, beq_iff_eq, or_assoc]

/-! ### The checks of RIDE (R37) -/

theorem storeBusy_of_running (busy : s.store.state = .loading ∨ s.store.state = .saving) : storeBusy s = true :=
  storeBusy_iff.mpr busy

theorem storeBusy_of_resting (rest : s.store.state = .idle ∨ s.store.state = .failed) : storeBusy s = false := by
  obtain h | h := rest <;> simp [storeBusy, h]

theorem takeRide_of_refusal {code : RefusalCode} (refused : rideRefusal s = some code) : takeRide s = refuse .ride code s := by
  rw [takeRide, refused]

theorem takeRide_of_none (passes : rideRefusal s = none) : takeRide s = accept .ride (rideStep s) := by
  rw [takeRide, passes]

theorem rideRefusal_of_homing_or_locking (busy : s.regime.regime = .homing ∨ s.regime.regime = .locking) :
    rideRefusal s = some .busy := if_pos busy

theorem rideRefusal_of_elsewhere (homing : s.regime.regime ≠ .homing) (locking : s.regime.regime ≠ .locking)
    (parked : s.regime.regime ≠ .parked) : rideRefusal s = some .wrongRegime := by
  simp [rideRefusal, homing, locking, parked]

theorem rideRefusal_of_busy (parked : s.regime.regime = .parked) (busy : storeBusy s = true) :
    rideRefusal s = some .busy := by
  simp [rideRefusal, parked, busy]

theorem rideRefusal_of_resting (parked : s.regime.regime = .parked) (rest : storeBusy s = false) :
    rideRefusal s =
      if allHomed s = false then some .notHomed
      else if faultLatched s ∨ selectedSpeed s = none ∨ s.drives.brake.state ≠ .engaged then some .faultActive
      else if (par s).vPark ≤ speedNow s then some .tooFast
      else none := by
  simp [rideRefusal, parked, rest]

theorem speedNow_of_some {v : Nat} (known : selectedSpeed s = some v) : speedNow s = v := by rw [speedNow, known]; rfl

/-! ### An accepted RIDE (R22, R38, R75) -/

/-- The record of a drive that takes RUN from OFF with its angle present (R147). -/
def ranRecord (r : Drive) (target a : Int) : Drive :=
  { r with mode := .run, holdTarget := none, ePrev := some (target - a), shadow := 0, satStart := none }

/-- A drive that is OFF takes RUN in one write (R146, R147). -/
theorem commandRun_of_off (d : DriveId) {a : Int} (off : (getDrive s d).mode = .off)
    (present : angle s (driveChannel d) = some a) :
    commandDrive d .run s = setDrive d (ranRecord (getDrive s d) (publishedTarget s d) a) s := by
  unfold commandDrive leaveMode enterLoop
  rw [off, present]
  rfl

/-- Both drives take RUN from OFF (R38). -/
theorem commandRun_both {a b : Int} (tilt : s.drives.tilt.mode = .off) (steer : s.drives.steer.mode = .off)
    (tiltAngle : angle s .tilt = some a) (steerAngle : angle s .steer = some b) :
    commandDrive .steer .run (commandDrive .tilt .run s) =
      { s with drives := { s.drives with
          tilt := ranRecord s.drives.tilt s.law.lambdaT a, steer := ranRecord s.drives.steer s.law.deltaT b } } := by
  rw [commandRun_of_off s .tilt tilt tiltAngle,
    commandRun_of_off (setDrive .tilt (ranRecord (getDrive s .tilt) (publishedTarget s .tilt) a) s) .steer steer steerAngle]
  rfl

theorem angle_of_homed {c : ChannelId} (homed : (getChannel s c).state = .homed) :
    angle s c = some (angleOfCount (getChannel s c).count (cpr (par s) c)) := by
  unfold angle
  rw [homed]
  rfl

/-- The targets set at RIDE acceptance, with both angles present (R22, R75). -/
theorem targetSet_of_homed (tilt : s.channels.tilt.state = .homed) (steer : s.channels.steer.state = .homed) :
    targetSet s =
      { s with
        law := { s.law with
          phiT := angleOfCount s.channels.tilt.count (par s).cprTilt + s.intake.cEst
          lambdaT := clampSym (par s).tiltLimit (angleOfCount s.channels.tilt.count (par s).cprTilt)
          deltaT := clampSym (par s).steerLimit (angleOfCount s.channels.steer.count (par s).cprSteer) } } := by
  have tiltAngle : angle s .tilt = some (angleOfCount s.channels.tilt.count (par s).cprTilt) := angle_of_homed s tilt
  have steerAngle : angle s .steer = some (angleOfCount s.channels.steer.count (par s).cprSteer) := angle_of_homed s steer
  unfold targetSet linkageTarget trackedSteer
  rw [tiltAngle, steerAngle]
  simp

theorem releaseBrake_of_engaged (engaged : s.drives.brake.state = .engaged) :
    releaseBrake s = if s.pins.brks then ⟨.released, true, none⟩ else ⟨.releasing, true, some (after (now s) 150000)⟩ := by
  unfold releaseBrake
  rw [engaged]

/-- The state an accepted RIDE leaves with both drives OFF (R38). -/
theorem rideStep_of_off (parked : s.regime.regime = .parked) (homed : ∀ c, (getChannel s c).state = .homed)
    (engaged : s.drives.brake.state = .engaged) (tilt : s.drives.tilt.mode = .off) (steer : s.drives.steer.mode = .off) :
    rideStep s =
      postRegimeNotice ⟨.unlocking, .parked, none, 0, msOf (now s)⟩
        { s with
          law := (targetSet s).law
          regime := { s.regime with regime := .unlocking }
          drives := { s.drives with
            tilt := ranRecord s.drives.tilt (targetSet s).law.lambdaT (angleOfCount s.channels.tilt.count (par s).cprTilt)
            steer := ranRecord s.drives.steer (targetSet s).law.deltaT (angleOfCount s.channels.steer.count (par s).cprSteer)
            brake :=
              if s.pins.brks then ⟨.released, true, none⟩ else ⟨.releasing, true, some (after (now s) 150000)⟩ } } := by
  have tiltAngle : angle s .tilt = some (angleOfCount s.channels.tilt.count (par s).cprTilt) :=
    angle_of_homed s (homed .tilt)
  have steerAngle : angle s .steer = some (angleOfCount s.channels.steer.count (par s).cprSteer) :=
    angle_of_homed s (homed .steer)
  have commanded (b : Brake) := commandRun_both (putControl { s.regime with regime := .unlocking } b (targetSet s)) tilt steer
    tiltAngle steerAngle
  rw [rideStep_eq, releaseBrake_of_engaged s engaged, parked, commanded]
  rfl

/-- Settles O26: the checks of RIDE in order, and the state of an accepted RIDE. -/
theorem rideRequest : Obligations.RideRequest := by
  unfold Obligations.RideRequest
  refine ⟨fun s => ⟨allHomed_iff s, faultLatched_iff s⟩, fun s h => ?_⟩
  rw [exec_ride_of_takesAtOnce h]
  refine ⟨fun busy => ?_, fun homing locking parked => ?_, fun parked busy => ?_, fun parked rest =>
    ⟨fun unhomed => ?_, fun homed fault => ?_, fun homed sound engaged v known => ⟨fun fast => ?_, fun slow tilt steer => ?_⟩⟩⟩
  · rw [takeRide_of_refusal s (rideRefusal_of_homing_or_locking s busy)]
  · rw [takeRide_of_refusal s (rideRefusal_of_elsewhere s homing locking parked)]
  · rw [takeRide_of_refusal s (rideRefusal_of_busy s parked (storeBusy_of_running s busy))]
  all_goals have checks := rideRefusal_of_resting s parked (storeBusy_of_resting s rest)
  · rw [if_pos unhomed] at checks
    rw [takeRide_of_refusal s checks]
  · rw [if_neg (by simp [homed]), if_pos fault] at checks
    rw [takeRide_of_refusal s checks]
  · rw [if_neg (by simp [homed]), if_neg (by simp [sound, known, engaged]), speedNow_of_some s known, if_pos fast] at checks
    rw [takeRide_of_refusal s checks]
  · rw [if_neg (by simp [homed]), if_neg (by simp [sound, known, engaged]), speedNow_of_some s known,
      if_neg (Nat.not_le.mpr slow)] at checks
    have all := (allHomed_iff s).mp homed
    rw [takeRide_of_none s checks, rideStep_of_off s parked all engaged tilt steer,
      targetSet_of_homed s (all .tilt) (all .steer)]
    rfl

/-! ### PARK (R50) -/

theorem startLocking_eq :
    startLocking s =
      postRegimeNotice ⟨.locking, s.regime.regime, none, 0, msOf (now s)⟩
        { s with
          regime := { s.regime with regime := .locking, dwellStart := none }
          drives := (commandEngage s).drives } := by
  unfold startLocking
  rw [commandEngage_eq, commandEngage_eq, changeRegime_setBrake]
  rfl

/-- Settles O27: PARK by the regime it finds. -/
theorem parkRequest : Obligations.ParkRequest := by
  unfold Obligations.ParkRequest
  intro s h
  rw [exec_park_of_takesAtOnce h]
  refine ⟨fun rests => ?_, fun locks => ?_, fun hold fast => ?_, fun free => ?_, fun busy => ?_, fun elsewhere => ?_⟩
  · obtain regime | regime := rests <;> simp only [takePark, regime]
  · rw [← startLocking_eq]
    obtain regime | ⟨regime, slow⟩ := locks
    · simp only [takePark, regime]
    · have slowNow : speedNow s < (par s).vPark := slow
      simp only [takePark, regime, slowNow, if_true]
  · have fastNow : ¬ speedNow s < (par s).vPark := Nat.not_lt.mpr fast
    simp only [takePark, hold, fastNow, if_false]
  · simp only [takePark, free]
  · obtain regime | regime := busy <;> simp only [takePark, regime]
  · obtain regime | regime := elsewhere <;> simp only [takePark, regime]

/-! ### HOME (R52) -/

theorem takeHome_of_refusal {code : RefusalCode} (refused : homeRefusal s = some code) :
    takeHome s = refuse .home code s := by rw [takeHome, refused]

theorem takeHome_of_none (passes : homeRefusal s = none) : takeHome s = accept .home (homeStep s) := by
  rw [takeHome, passes]

theorem homeRefusal_of_elsewhere (other : s.regime.regime ≠ .parked) : homeRefusal s = some .wrongRegime := if_pos other

theorem homeRefusal_of_parked (parked : s.regime.regime = .parked) :
    homeRefusal s =
      if storeBusy s = true then some .busy else if s.drives.brake.state ≠ .engaged then some .faultActive else none := by
  simp [homeRefusal, parked]

/-- The record of a channel commanded to seek (R90). -/
def soughtChannel (c : Channel) : Channel :=
  if c.state = .fault then c else { c with state := .seeking, lastDiff := none, suspectStart := none }

theorem seekChannel_eq (c : ChannelId) : seekChannel c s = setChannel c (soughtChannel (getChannel s c)) s := by
  unfold seekChannel soughtChannel
  split
  · cases c <;> rfl
  · rfl

/-- The state an accepted HOME leaves (R52, R90, R162). -/
theorem homeStep_of_engaged (parked : s.regime.regime = .parked) (engaged : s.drives.brake.state = .engaged) :
    homeStep s =
      postRegimeNotice ⟨.homing, .parked, none, 0, msOf (now s)⟩
        { s with
          regime := { s.regime with regime := .homing, phase := some .releasing }
          channels := { s.channels with
            tilt := soughtChannel s.channels.tilt, steer := soughtChannel s.channels.steer }
          drives := { s.drives with
            brake :=
              if s.pins.brks then ⟨.released, true, none⟩ else ⟨.releasing, true, some (after (now s) 150000)⟩ } } := by
  unfold homeStep
  rw [seekChannel_eq, seekChannel_eq, commandRelease_eq, releaseBrake_of_engaged, ← parked]
  · rfl
  · exact engaged

/-- Settles O29: the checks of HOME in order, and the state of an accepted HOME. -/
theorem homeRequest : Obligations.HomeRequest := by
  unfold Obligations.HomeRequest
  intro s h
  rw [exec_home_of_takesAtOnce h]
  refine ⟨fun other => ?_, fun parked busy => ?_, fun parked rest => ⟨fun loose => ?_, fun engaged => ?_⟩⟩
  · rw [takeHome_of_refusal s (homeRefusal_of_elsewhere s other)]
  · have checks := homeRefusal_of_parked s parked
    rw [if_pos (storeBusy_of_running s busy)] at checks
    rw [takeHome_of_refusal s checks]
  · have checks := homeRefusal_of_parked s parked
    rw [if_neg (by simp [storeBusy_of_resting s rest]), if_pos loose] at checks
    rw [takeHome_of_refusal s checks]
  · have checks := homeRefusal_of_parked s parked
    rw [if_neg (by simp [storeBusy_of_resting s rest]), if_neg (by simp [engaged])] at checks
    rw [takeHome_of_none s checks, homeStep_of_engaged s parked engaged]
    rfl

end Sys2Proof.Machine
end

section
/-! The regime controller: LEAVE_INIT, the blends and their expiries, law samples by regime, aborts of a release and fault
reports (R30 to R63). -/

namespace Sys2Proof.Machine

variable (s : State)

/-! ### Elapsed time and the blends (R42, R43) -/

@[simp] theorem elapsed_self (t : Time) : elapsed t t = 0 := by simp [elapsed]

/-- The time elapsed after a wait that fits the local time. -/
theorem elapsed_after (t : Time) {us : Nat} (fits : us < 2 ^ 48) : elapsed t (after t us) = us := by
  rw [elapsed, after, BitVec.add_comm, BitVec.add_sub_cancel, BitVec.toNat_ofNat, Nat.mod_eq_of_lt fits]

/-- A quotient reaches a bound exactly when the dividend reaches its multiple. -/
theorem le_ceilDiv_iff {n d x : Nat} (pos : 0 < d) : ceilDiv n d ≤ x ↔ n ≤ d * x := by
  unfold ceilDiv
  rw [← Nat.lt_succ_iff, Nat.div_lt_iff_lt_mul pos, Nat.succ_mul, Nat.mul_comm x d]
  omega

/-- α of a release blend x µs after its start (R43). -/
theorem alphaAt_releaseBlend {x : Nat} (fits : x < 2 ^ 48) :
    alphaAt .release (some (releaseBlend s)) (after (now s) x) = min 1024 (1024 * x / (1000 * (par s).tBlend)) := by
  simp [alphaAt, blendProgress, releaseBlend, elapsed_after _ fits]

/-- α of a capture blend x µs after its start (R43). -/
theorem alphaAt_captureBlend (a : Nat) {x : Nat} (fits : x < 2 ^ 48) :
    alphaAt .capture (some (captureBlend a s)) (after (now s) x) = a - 1024 * x / (1000 * (par s).tBlend) := by
  simp [alphaAt, blendProgress, captureBlend, elapsed_after _ fits]

/-- A capture blend begins at its start (R43). -/
theorem alphaAt_captureBlend_now (a : Nat) : alphaAt .capture (some (captureBlend a s)) (now s) = a := by
  simp [alphaAt, blendProgress, captureBlend]

/-- A release blend lasts T_BLEND (R42). -/
theorem elapsed_releaseBlend (short : (par s).tBlend ≤ 2000) :
    elapsed (now s) (releaseBlend s).expiry = 1000 * (par s).tBlend := elapsed_after _ (by omega)

/-- A capture blend from a lasts a / 1024 of T_BLEND (R42). -/
theorem elapsed_captureBlend {a : Nat} (short : (par s).tBlend ≤ 2000) (start : a ≤ 1024) :
    elapsed (now s) (captureBlend a s).expiry = ceilDiv (a * 1000 * (par s).tBlend) 1024 := by
  refine elapsed_after _ (Nat.lt_of_le_of_lt ((le_ceilDiv_iff (x := 2000000) (by decide)).mpr ?_) (by decide))
  calc a * 1000 * (par s).tBlend ≤ 1024 * 1000 * 2000 := Nat.mul_le_mul (Nat.mul_le_mul start (Nat.le_refl _)) short
    _ = 1024 * 2000000 := rfl

/-- α of RELEASE is full exactly from the expiry on (R42, R43). -/
theorem alphaAt_releaseBlend_full {x : Nat} (long : 100 ≤ (par s).tBlend) (short : (par s).tBlend ≤ 2000)
    (fits : x < 2 ^ 48) :
    alphaAt .release (some (releaseBlend s)) (after (now s) x) = 1024 ↔
      elapsed (now s) (releaseBlend s).expiry ≤ x := by
  have full (q : Nat) : min 1024 q = 1024 ↔ 1024 ≤ q := by omega
  rw [alphaAt_releaseBlend s fits, elapsed_releaseBlend s short, full, Nat.le_div_iff_mul_le (by omega)]
  omega

/-- α of CAPTURE is 0 exactly from the expiry on (R42, R43). -/
theorem alphaAt_captureBlend_done {a x : Nat} (long : 100 ≤ (par s).tBlend) (short : (par s).tBlend ≤ 2000)
    (start : a ≤ 1024) (fits : x < 2 ^ 48) :
    alphaAt .capture (some (captureBlend a s)) (after (now s) x) = 0 ↔
      elapsed (now s) (captureBlend a s).expiry ≤ x := by
  rw [alphaAt_captureBlend s a fits, elapsed_captureBlend s short start, le_ceilDiv_iff (by decide), Nat.sub_eq_zero_iff_le,
    Nat.le_div_iff_mul_le (by omega), Nat.mul_assoc]

/-! ### The expiries of the blends (R48, R49) -/

theorem blendDue_of_some {b : Blend} {r : Regime} (held : s.regime.blend = some b) (expired : b.expiry = now s)
    (regime : s.regime.regime = r) {k : BlendKind} (kind : b.kind = k) : blendDue s r k = true :=
  (blendDue_iff s r k).mpr ⟨regime, b, held, kind, expired⟩

theorem finishCapture_eq (capture : s.regime.regime = .capture) :
    finishCapture s =
      postRegimeNotice ⟨.uprightHold, .capture, none, 0, msOf (now s)⟩
        { s with regime := { s.regime with regime := .uprightHold, blend := none, dwellStart := none } } := by
  rw [← capture]
  rfl

theorem releaseEnd_eq (release : s.regime.regime = .release) :
    changeRegime .freeLean none (setBlend none s) =
      postRegimeNotice ⟨.freeLean, .release, none, 1024, msOf (now s)⟩
        { s with regime := { s.regime with regime := .freeLean, blend := none } } := by
  rw [← release]
  rfl

/-- Settles O32: α of a blend reaches its end at the expiry, and each expiry enters the next regime. -/
theorem blendsRunTheirCourse : Obligations.BlendsRunTheirCourse := by
  unfold Obligations.BlendsRunTheirCourse
  refine ⟨fun b s held expired => ⟨fun release kind => ?_, fun capture kind => ?_⟩,
    fun s a x long short start soon => ?_⟩
  · simp only [exec_releaseBlendExpiry, execReleaseBlendExpiry]
    rw [if_pos (blendDue_of_some s held expired release kind), releaseEnd_eq s release]
  · simp only [exec_captureBlendExpiry, execCaptureBlendExpiry]
    rw [if_pos (blendDue_of_some s held expired capture kind), finishCapture_eq s capture]
  · have fits : x < 2 ^ 48 := by omega
    refine ⟨alphaAt_releaseBlend s fits, alphaAt_releaseBlend_full s long short fits, alphaAt_captureBlend s a fits,
      alphaAt_captureBlend_done s long short start fits, fun b t => ?_, fun r b t release free capture => ?_⟩
    · cases b <;> rfl
    · cases r <;> cases b <;> simp_all [alphaAt]

/-! ### LEAVE_INIT (R30, R32) -/

theorem offRecord_of_resting {r : Drive} (rests : r.mode = .off ∨ r.mode = .fault) : offRecord r = r := if_pos rests

theorem leavingTold_of_resting (d : DriveId) (rests : (getDrive s d).mode = .off ∨ (getDrive s d).mode = .fault) :
    leavingTold d s = s := by
  obtain off | fault := rests
  · simp [leavingTold, endsSaturation, off]
  · simp [leavingTold, endsSaturation, fault]

/-- An OFF command to a drive in OFF or FAULT changes nothing (R146). -/
theorem commandOff_of_resting (d : DriveId) (rests : (getDrive s d).mode = .off ∨ (getDrive s d).mode = .fault) :
    commandDrive d .off s = s := by
  rw [commandOff_eq, offRecord_of_resting rests, leavingTold_of_resting s d rests, setDrive_getDrive]

theorem bothOff_of_resting (rest : ∀ d, (getDrive s d).mode = .off ∨ (getDrive s d).mode = .fault) : bothOff s = s := by
  unfold bothOff
  rw [commandOff_of_resting s .tilt (rest .tilt), commandOff_of_resting s .steer (rest .steer)]

/-- Both drives are OFF unless in FAULT (R30). -/
theorem bothOff_mode (d : DriveId) :
    (getDrive (bothOff s) d).mode = if (getDrive s d).mode = .fault then .fault else .off := by
  unfold bothOff
  cases d with
  | tilt => rw [commandDrive_other .steer .tilt _ _ (by decide), commandDrive_mode]; rfl
  | steer => rw [commandDrive_mode, commandDrive_other .tilt .steer _ _ (by decide)]; rfl

/-- PARKED entered from INIT (R32). -/
theorem enterParked_eq :
    enterParked s =
      postRegimeNotice ⟨.parked, s.regime.regime, none, 0, msOf (now s)⟩
        (putRegime { s.regime with regime := .parked } (bothOff s)) := by
  have regime : (bothOff s).regime = s.regime := by simp
  have time : now (bothOff s) = now s := by simp [now]
  calc enterParked s = changeRegime .parked none (putRegime s.regime (bothOff s)) := by
        rw [← regime]
        rfl
    _ = _ := by
        rw [changeRegime_putRegime, nowMs, time]
        rfl

theorem leaveInitStep_eq :
    leaveInitStep s =
      postRegimeNotice ⟨.parked, s.regime.regime, none, 0, msOf (now s)⟩
        { bothOff s with
          regime := { s.regime with regime := .parked }
          law := { s.law with timer := some (after (now s) 2000), ring := [] } } := by
  have law : (bothOff s).law = s.law := by simp
  unfold leaveInitStep
  rw [enterParked_eq, ← law]
  rfl

/-- Settles O31: LEAVE_INIT. -/
theorem leaveInit : Obligations.LeaveInit := by
  unfold Obligations.LeaveInit
  intro s init done
  have due : leaveInitDue s = true := (leaveInitDue_iff s).mpr ⟨init, done⟩
  simp only [exec_leaveInit, execLeaveInit]
  rw [if_pos due]
  refine ⟨⟨_, rfl, fun d => ?_, ?_⟩, fun rest => ?_⟩
  · have drive : getDrive (leaveInitStep s) d = getDrive (bothOff s) d := by
      rw [leaveInitStep_eq]
      cases d <;> rfl
    rw [drive, bothOff_mode]
  · rw [leaveInitStep_eq]
    simp [postRegimeNotice]
  · rw [leaveInitStep_eq, bothOff_of_resting s rest, init]

/-! ### The abort of a release (R46, R47, R62, R63) -/

/-- The kinds of the events a regime change tells (R171). -/
theorem regimeKinds_release : regimeKinds true false false false = 1 := by decide

theorem regimeKinds_capture : regimeKinds false false true false = 4 := by decide

theorem regimeKinds_abort : regimeKinds false true true false = 6 := by decide

theorem regimeKinds_safe (aborts : Bool) : regimeKinds false aborts false true = if aborts then 10 else 8 := by
  cases aborts <;> decide

/-- The record of an aborted release (R62). -/
def abortRecord (cause : AbortCause) (a speed : Nat) (s : State) : AbortRecord :=
  ⟨cause, .release, .capture, a, speed, msOf (now s)⟩

/-- The regime record of an aborted release (R42, R46). -/
def abortedRegime (cause : AbortCause) (a speed : Nat) (s : State) : RegimeControl :=
  { s.regime with
    regime := .capture
    blend := some (captureBlend a s)
    history := pushRecord s.regime.history (abortRecord cause a speed s) }

/-- The state in which a release is aborted, before a capture from α 0 completes (R46). -/
def abortedState (cause : AbortCause) (a speed : Nat) (s : State) : State :=
  deliver .regimeEvent 6
    (postRegimeNotice ⟨.capture, .release, some cause, a, msOf (now s)⟩ { s with regime := abortedRegime cause a speed s })

@[simp] theorem abortedState_frame (cause : AbortCause) (a speed : Nat) :
    (abortedState cause a speed s).pending = s.pending ∧ (abortedState cause a speed s).pins = s.pins ∧
    (abortedState cause a speed s).timeBase = s.timeBase ∧ (abortedState cause a speed s).intake = s.intake ∧
    (abortedState cause a speed s).channels = s.channels ∧ (abortedState cause a speed s).wheels = s.wheels ∧
    (abortedState cause a speed s).law = s.law ∧
    (abortedState cause a speed s).regime = abortedRegime cause a speed s ∧
    (abortedState cause a speed s).drives = s.drives ∧ (abortedState cause a speed s).store = s.store := by
  simp [abortedState]

/-- The state after an aborted release that had not begun to lean: its capture is complete (R46, R49). -/
def uprightState (t : Time) (s : State) : State :=
  postRegimeNotice ⟨.uprightHold, .capture, none, 0, msOf t⟩
    { s with regime := { s.regime with regime := .uprightHold, blend := none, dwellStart := none } }

/-- An abort writes the regime record once, posts its notice, tells its event, and completes at α 0 (R46, R49). -/
theorem transientAbort_eq (cause : AbortCause) (speed : Nat) {a : Nat} (release : s.regime.regime = .release)
    (start : alphaAt .release s.regime.blend (now s) = a) :
    transientAbort cause speed s =
      if a = 0 then uprightState (now s) (abortedState cause a speed s) else abortedState cause a speed s := by
  have alphaNow : alpha s = a := by rw [alpha, release, start]
  have record : makeRecord cause .capture speed s = abortRecord cause a speed s := by
    rw [makeRecord, alphaNow, release]
    rfl
  have changed : changeRegime .capture (some cause)
      (setBlend (some (captureBlend a s)) (appendRecord cause .capture speed s)) =
      postRegimeNotice ⟨.capture, .release, some cause, a, msOf (now s)⟩
        { s with regime := abortedRegime cause a speed s } := by
    have write : setBlend (some (captureBlend a s)) (appendRecord cause .capture speed s) =
        putRegime { abortedRegime cause a speed s with regime := s.regime.regime } s := by
      rw [appendRecord, record]
      rfl
    rw [write, changeRegime_putRegime, release]
    dsimp only [abortedRegime]
    rw [alphaAt_captureBlend_now]
    rfl
  have capture : (abortedState cause a speed s).regime.regime = .capture := by simp [abortedRegime]
  have time : now (abortedState cause a speed s) = now s := by simp [now]
  have finished := finishCapture_eq _ capture
  rw [time] at finished
  unfold transientAbort
  dsimp only
  rw [regimeKinds_abort, alphaNow, changed]
  split
  · exact finished
  · rfl

/-! ### Law samples (R33, R40, R45, R49, R60) -/

/-- The state with a sample kept (R33). -/
def keptSample (sample : Sample) (s : State) : State := putRegime { s.regime with latest := some sample } s

/-- A sample is kept before the regime acts on it (R33). -/
theorem takeSample_eq (sample : Sample) :
    takeSample sample s =
      match s.regime.regime with
      | .init | .parked | .homing => keptSample sample s
      | .unlocking | .capture | .locking => ridingSample sample id (keptSample sample s)
      | .uprightHold => ridingSample sample (dwellStep sample.vLaw) (keptSample sample s)
      | .release => ridingSample sample (releaseStep sample) (keptSample sample s)
      | .freeLean =>
        ridingSample sample (fun k => if sample.vLaw < (par k).vLock then startCapture k else k) (keptSample sample s)
      | .safe => safeSampleStep s.regime.latest sample (keptSample sample s) := by
  unfold takeSample
  cases s.regime.regime <;> rfl

theorem ridingSample_of_known {sample : Sample} (known : sample.unknown = false) (step : State → State) :
    ridingSample sample step s = step s := if_neg (by simp [known])

theorem ridingSample_of_unknown {sample : Sample} (unknown : sample.unknown = true) (step : State → State) :
    ridingSample sample step s = enterSafe .speedUnknown sample.vLaw s := if_pos unknown

theorem takeSample_of_uprightHold (sample : Sample) (hold : s.regime.regime = .uprightHold) (known : sample.unknown = false) :
    takeSample sample s = dwellStep sample.vLaw (keptSample sample s) := by
  rw [takeSample_eq, hold]
  exact ridingSample_of_known _ known _

theorem takeSample_of_release (sample : Sample) (release : s.regime.regime = .release) (known : sample.unknown = false) :
    takeSample sample s = releaseStep sample (keptSample sample s) := by
  rw [takeSample_eq, release]
  exact ridingSample_of_known _ known _

theorem takeSample_of_freeLean (sample : Sample) (free : s.regime.regime = .freeLean) (known : sample.unknown = false) :
    takeSample sample s =
      if sample.vLaw < (par s).vLock then startCapture (keptSample sample s) else keptSample sample s := by
  rw [takeSample_eq, free]
  exact ridingSample_of_known _ known _

theorem takeSample_of_safe (sample : Sample) (safe : s.regime.regime = .safe) :
    takeSample sample s = safeSampleStep s.regime.latest sample (keptSample sample s) := by
  rw [takeSample_eq, safe]

/-- The release conditions spelt out (R40). -/
theorem releaseConditions_iff (v : Nat) :
    releaseConditions v s = true ↔
      (par s).vFree ≤ v ∧ quality s ≠ .stale ∧ s.wheels.slip = false ∧ s.intake.yawSlip = false ∧
        s.channels.tilt.state = .homed ∧ s.channels.steer.state = .homed ∧ s.channels.bar.state = .homed ∧
        inhibitedAt s.regime.history (msOf (now s)) = false := by
  simp [releaseConditions, allHomed, releaseInhibited, nowMs, and_assoc]

theorem startRelease_eq (hold : s.regime.regime = .uprightHold) :
    startRelease s =
      deliver .regimeEvent 1 (postRegimeNotice ⟨.release, .uprightHold, none, 0, msOf (now s)⟩
        { s with regime := { s.regime with regime := .release, dwellStart := none, blend := some (releaseBlend s) } }) := by
  have begun : alphaAt .release (some (releaseBlend s)) (now s) = 0 := by simp [alphaAt, blendProgress, releaseBlend]
  have changed : changeRegime .release none (setDwell none (setBlend (some (releaseBlend s)) s)) =
      changeRegime .release none
        (putRegime { s.regime with dwellStart := none, blend := some (releaseBlend s) } s) := rfl
  unfold startRelease
  rw [regimeKinds_release, changed, changeRegime_putRegime, begun, hold]
  rfl

/-- Settles O33: the dwell and the release. -/
theorem samplesInUprightHold : Obligations.SamplesInUprightHold := by
  unfold Obligations.SamplesInUprightHold
  intro sample s hold known kept conditions
  have holds : releaseConditions sample.vLaw kept = true ↔ conditions := releaseConditions_iff kept sample.vLaw
  rw [takeSample_of_uprightHold s sample hold known]
  show (_ → dwellStep _ kept = _) ∧ (_ → _ → dwellStep _ kept = _) ∧ (∀ d, _ → _ → _ → dwellStep _ kept = _) ∧
    ∀ d, _ → _ → _ → dwellStep _ kept = _
  unfold dwellStep
  refine ⟨fun fails => ?_, fun all absent => ?_, fun d held all short => ?_, fun d held all long => ?_⟩
  · rw [if_neg (fails ∘ holds.mp)]
    rfl
  · rw [if_pos (holds.mpr all), show kept.regime.dwellStart = none from absent]
    rfl
  · rw [if_pos (holds.mpr all), show kept.regime.dwellStart = some d from held]
    exact if_neg (Nat.not_le.mpr short)
  · rw [if_pos (holds.mpr all), show kept.regime.dwellStart = some d from held]
    exact (if_pos long).trans (startRelease_eq kept hold)

/-- The transient causes by name (R62). -/
theorem persistence_eq_transient_iff (c : AbortCause) :
    persistence c = .transient ↔ c ∈ [.speedLow, .inertialStale, .slip, .barRate, .channelSuspect, .parkRequest] := by
  cases c <;> decide

theorem persistence_eq_persistent_iff (c : AbortCause) :
    persistence c = .persistent ↔ c ∈ [.driveFault, .brakeFault, .channelFault, .speedUnknown] := by
  cases c <;> decide

/-- Settles O34: release inhibition by its records. -/
theorem releaseInhibition : Obligations.ReleaseInhibition := by
  unfold Obligations.ReleaseInhibition
  intro history t
  have counted : (fun r : AbortRecord => persistence r.cause == .transient && recent t r) =
      fun r => decide (r.cause ∈ [.speedLow, .inertialStale, .slip, .barRate, .channelSuspect, .parkRequest])
        && decide ((t - r.time).toNat < 10000) := by
    funext r
    rw [Bool.beq_eq_decide_eq, decide_eq_decide.mpr (persistence_eq_transient_iff r.cause)]
    rfl
  unfold inhibitedAt
  rw [counted, Bool.or_eq_true, decide_eq_true_iff, List.any_eq_true]
  simp only [beq_iff_eq, persistence_eq_persistent_iff]

theorem anySuspect_iff :
    anySuspect s = true ↔
      s.channels.tilt.state = .suspect ∨ s.channels.steer.state = .suspect ∨ s.channels.bar.state = .suspect := by
  simp [anySuspect, or_assoc]

theorem releaseStep_of_cause (sample : Sample) {cause : AbortCause} (aborts : abortCauseOf sample s = some cause) :
    releaseStep sample s = transientAbort cause sample.vLaw s := by rw [releaseStep, aborts]

theorem releaseStep_of_none (sample : Sample) (goes : abortCauseOf sample s = none) : releaseStep sample s = s := by
  rw [releaseStep, goes]

/-- The causes a sample gives in RELEASE, in order (R45). -/
theorem abortCauseOf_eq (sample : Sample) :
    abortCauseOf sample s =
      if sample.vLaw < (par s).vLock then some .speedLow
      else if quality s = .stale then some .inertialStale
      else if s.wheels.slip = true ∨ s.intake.yawSlip = true then some .slip
      else if (par s).barRateAbort < sample.barRate.natAbs then some .barRate
      else if s.channels.tilt.state = .suspect ∨ s.channels.steer.state = .suspect ∨ s.channels.bar.state = .suspect then
        some .channelSuspect
      else none := by
  unfold abortCauseOf
  simp only [anySuspect_iff]

/-- A sample that gives a cause in RELEASE aborts it (R45, R46). -/
theorem takeSample_aborts (sample : Sample) {cause : AbortCause} (release : s.regime.regime = .release)
    (known : sample.unknown = false) (named : abortCauseOf sample s = some cause) :
    let a := alphaAt .release s.regime.blend (now s)
    takeSample sample s =
      if a = 0 then uprightState (now s) (abortedState cause a sample.vLaw (keptSample sample s))
      else abortedState cause a sample.vLaw (keptSample sample s) := by
  rw [takeSample_of_release s sample release known, releaseStep_of_cause (keptSample sample s) sample named]
  exact transientAbort_eq (keptSample sample s) cause sample.vLaw release rfl

/-- Settles O35: the abort conditions of RELEASE in order. -/
theorem samplesInRelease : Obligations.SamplesInRelease := by
  unfold Obligations.SamplesInRelease
  intro sample s release known kept slow stale slip fast suspect a aborted
  have aborts {cause : AbortCause} (named : abortCauseOf sample s = some cause) : aborted cause := by
    have taken := takeSample_aborts s sample release known named
    dsimp only [uprightState, abortedState, abortedRegime, abortRecord, captureBlend, keptSample, putRegime, now, par] at taken
    dsimp only [aborted, kept, a, now, par]
    exact taken
  have order := abortCauseOf_eq s sample
  refine ⟨fun h => aborts ?_, fun h1 h => aborts ?_, fun h1 h2 h => aborts ?_, fun h1 h2 h3 h => aborts ?_,
    fun h1 h2 h3 h4 h => aborts ?_, fun h1 h2 h3 h4 h5 => ?_⟩
  · rw [order, if_pos h]
  · rw [order, if_neg h1, if_pos h]
  · rw [order, if_neg h1, if_neg h2, if_pos h]
  · rw [order, if_neg h1, if_neg h2, if_neg h3, if_pos h]
  · rw [order, if_neg h1, if_neg h2, if_neg h3, if_neg h4, if_pos h]
  · rw [if_neg h1, if_neg h2, if_neg h3, if_neg h4, if_neg h5] at order
    rw [takeSample_of_release s sample release known]
    exact releaseStep_of_none kept sample order

theorem startCapture_eq (free : s.regime.regime = .freeLean) :
    startCapture s =
      deliver .regimeEvent 4 (postRegimeNotice ⟨.capture, .freeLean, none, 1024, msOf (now s)⟩
        { s with regime := { s.regime with regime := .capture, blend := some (captureBlend 1024 s) } }) := by
  have changed : changeRegime .capture none (setBlend (some (captureBlend 1024 s)) s) =
      changeRegime .capture none (putRegime { s.regime with blend := some (captureBlend 1024 s) } s) := rfl
  unfold startCapture
  rw [regimeKinds_capture, changed, changeRegime_putRegime, alphaAt_captureBlend_now, free]
  rfl

/-- A capture blend from 1024 lasts T_BLEND (R42). -/
theorem captureBlend_full :
    captureBlend 1024 s = ⟨.capture, now s, 1024, (par s).tBlend, after (now s) (1000 * (par s).tBlend)⟩ := by
  have whole : ceilDiv (1024 * 1000 * (par s).tBlend) 1024 = 1000 * (par s).tBlend := by
    unfold ceilDiv
    omega
  rw [captureBlend, whole]

/-- Unknown speed ends every riding regime in SAFE (R33). -/
theorem takeSample_of_unknown (sample : Sample) (riding : isRiding s.regime.regime = true) (unknown : sample.unknown = true) :
    takeSample sample s = enterSafe .speedUnknown sample.vLaw (keptSample sample s) := by
  rw [takeSample_eq]
  cases regime : s.regime.regime with
  | unlocking | uprightHold | release | freeLean | capture | locking => exact ridingSample_of_unknown _ unknown _
  | init | parked | homing | safe => simp [regime, isRiding] at riding

/-- Settles O36: samples in the other regimes. -/
theorem samplesElsewhere : Obligations.SamplesElsewhere := by
  unfold Obligations.SamplesElsewhere
  intro sample s kept
  refine ⟨fun rests => ?_, fun rides known => ?_, fun free known fast => ?_, fun free known slow => ?_,
    takeSample_of_unknown s sample, fun safe unknown begins => ?_, fun safe stays => ?_⟩
  · rw [takeSample_eq]
    obtain regime | regime := rests <;> rw [regime] <;> rfl
  · rw [takeSample_eq]
    obtain regime | regime | regime := rides <;> rw [regime] <;> exact ridingSample_of_known _ known _
  · rw [takeSample_of_freeLean s sample free known, if_neg (Nat.not_lt.mpr fast)]
    rfl
  · rw [takeSample_of_freeLean s sample free known, if_pos slow, startCapture_eq (keptSample sample s) free, captureBlend_full]
    rfl
  · obtain ⟨p, latest, knew⟩ := begins
    have record : makeRecord .speedUnknown .safe sample.vLaw kept =
        ⟨.speedUnknown, .safe, .safe, 0, sample.vLaw, msOf (now s)⟩ := by
      rw [makeRecord, alpha, show kept.regime.regime = .safe from safe]
      rfl
    rw [takeSample_of_safe s sample safe, safeSampleStep, if_pos (by simp [unknown, latest, knew]), ← record]
    rfl
  · rw [takeSample_of_safe s sample safe, safeSampleStep, if_neg]
    · rfl
    · obtain known | absent | ⟨p, latest, unknew⟩ := stays
      · simp [known]
      · simp [absent]
      · simp [latest, unknew]

/-! ### Fault reports (R35, R54, R56, R60) -/

/-- The abort cause of a fault in a drive, in the brake or of a channel (R35). -/
theorem faultReport_eq (source : FaultSource) (cause : FaultCause) (value : Int) {r : Regime}
    (after_ : regimeAfterFault source s.regime.regime = r) :
    faultReport source cause value s = actOnFault source (postFaultNotice ⟨source, cause, value, r, msOf (now s)⟩ s) := by
  rw [← after_]
  rfl

theorem actOnFault_of_rest (source : FaultSource) (rests : s.regime.regime = .init ∨ s.regime.regime = .parked) :
    actOnFault source s = s := by
  unfold actOnFault
  split
  · rfl
  · obtain regime | regime := rests <;> rw [regime]

theorem regimeAfterFault_of_rest (source : FaultSource) {r : Regime} (rests : r = .init ∨ r = .parked) :
    regimeAfterFault source r = r := by
  unfold regimeAfterFault
  split
  · rfl
  · obtain rfl | rfl := rests <;> rfl

/-- A fault in a riding regime leads to SAFE (R35, R57). -/
theorem actOnFault_of_riding {source : FaultSource} {cause : AbortCause} (named : faultAbortCause source = some cause)
    (riding : isRiding s.regime.regime = true) : actOnFault source s = enterSafe cause (speedNow s) s := by
  unfold actOnFault
  rw [named]
  cases regime : s.regime.regime with
  | unlocking | uprightHold | release | freeLean | capture | locking => rfl
  | init | parked | homing | safe => simp [regime, isRiding] at riding

theorem regimeAfterFault_of_riding {source : FaultSource} {cause : AbortCause} (named : faultAbortCause source = some cause)
    {r : Regime} (riding : isRiding r = true) : regimeAfterFault source r = .safe := by
  unfold regimeAfterFault
  rw [named]
  cases r with
  | unlocking | uprightHold | release | freeLean | capture | locking => rfl
  | init | parked | homing | safe => simp [isRiding] at riding

/-- A fault of a drive or of the brake leads from HOMING to SAFE too (R56). -/
theorem actOnFault_of_homing {source : FaultSource} {cause : AbortCause} (named : faultAbortCause source = some cause)
    (homing : s.regime.regime = .homing) (other : ∀ c, source ≠ .channel c) :
    actOnFault source s = enterSafe cause (speedNow s) s := by
  unfold actOnFault
  rw [named, homing]
  cases source with
  | channel c => exact absurd rfl (other c)
  | drive | brake | wheel => rfl

theorem regimeAfterFault_of_homing {source : FaultSource} {cause : AbortCause} (named : faultAbortCause source = some cause)
    (other : ∀ c, source ≠ .channel c) : regimeAfterFault source .homing = .safe := by
  unfold regimeAfterFault
  rw [named]
  cases source with
  | channel c => exact absurd rfl (other c)
  | drive | brake | wheel => rfl

/-- A fault of a channel in HOMING is that channel's alone (R54). -/
theorem actOnFault_channel_homing (c : ChannelId) (homing : s.regime.regime = .homing) :
    actOnFault (.channel c) s = homingChannelFault c s := by
  unfold actOnFault
  rw [show faultAbortCause (.channel c) = some .channelFault from rfl, homing]

/-- A further fault in SAFE leaves a record and acts on a drive (R60). -/
theorem actOnFault_of_safe {source : FaultSource} {cause : AbortCause} (named : faultAbortCause source = some cause)
    (safe : s.regime.regime = .safe) :
    actOnFault source s = safeFaultEffect source (appendRecord cause .safe (speedNow s) s) := by
  unfold actOnFault
  rw [named, safe]

theorem regimeAfterFault_of_safe {source : FaultSource} {cause : AbortCause} (named : faultAbortCause source = some cause) :
    regimeAfterFault source .safe = .safe := by
  unfold regimeAfterFault
  rw [named]

/-- The record of a further fault in SAFE (R60, R62). -/
theorem makeRecord_of_safe (cause : AbortCause) (speed : Nat) (safe : s.regime.regime = .safe) :
    makeRecord cause .safe speed s = ⟨cause, .safe, .safe, 0, speed, msOf (now s)⟩ := by
  rw [makeRecord, alpha, safe]
  rfl

/-- Settles O38: fault reports by source and regime. -/
theorem faultReports : Obligations.FaultReports := by
  unfold Obligations.FaultReports
  intro source cause value s noted recorded
  have enters {a : AbortCause} (named : faultAbortCause source = some a)
      (where_ : isRiding s.regime.regime = true ∨ s.regime.regime = .homing ∧ ∀ c, source ≠ .channel c) :
      faultReport source cause value s = enterSafe a ((selectedSpeed s).getD 0) (noted .safe) := by
    obtain riding | ⟨homing, other⟩ := where_
    · rw [faultReport_eq s source cause value (regimeAfterFault_of_riding named riding)]
      exact actOnFault_of_riding (noted .safe) named riding
    · rw [faultReport_eq s source cause value (homing ▸ regimeAfterFault_of_homing named other)]
      exact actOnFault_of_homing (noted .safe) named homing other
  have seeks (c : ChannelId) (homing : s.regime.regime = .homing) (is : source = .channel c) :
      faultReport source cause value s = homingChannelFault c (noted .homing) := by
    rw [faultReport_eq s source cause value (r := .homing) (by rw [homing, is]; rfl)]
    subst is
    exact actOnFault_channel_homing (noted .homing) c homing
  have records {a : AbortCause} (named : faultAbortCause source = some a) (safe : s.regime.regime = .safe) :
      faultReport source cause value s = safeFaultEffect source (recorded a) := by
    have record := makeRecord_of_safe (noted .safe) a (speedNow s) safe
    have kept : appendRecord a .safe (speedNow (noted .safe)) (noted .safe) = recorded a := by
      rw [appendRecord, show speedNow (noted .safe) = speedNow s from rfl, record]
      rfl
    rw [faultReport_eq s source cause value (r := .safe)
      (by rw [safe]; exact regimeAfterFault_of_safe named),
      actOnFault_of_safe (noted .safe) named safe, kept]
  refine ⟨fun w is => ?_, fun rests => ?_, fun c is riding => ?_, fun d is at_ => ?_, fun is at_ => ?_, fun homing => ?_,
    fun safe => ?_⟩
  · subst is
    rfl
  · rw [faultReport_eq s source cause value (regimeAfterFault_of_rest source rests)]
    exact actOnFault_of_rest (noted s.regime.regime) source rests
  · exact enters (by rw [is]; rfl) (.inl riding)
  · exact enters (by rw [is]; rfl) (at_.imp_right fun homing => ⟨homing, by simp [is]⟩)
  · exact enters (by rw [is]; rfl) (at_.imp_right fun homing => ⟨homing, by simp [is]⟩)
  · exact ⟨seeks .tilt homing, seeks .steer homing, seeks .bar homing⟩
  · refine ⟨fun is => ?_, fun is => ?_, fun is => ?_, fun is => ?_, fun is => ?_⟩
    · rw [records (by rw [is]; rfl) safe, is]; rfl
    · obtain is | is := is <;> rw [records (by rw [is]; rfl) safe, is] <;> rfl
    · rw [records (by rw [is]; rfl) safe, is]; rfl
    · rw [records (by rw [is]; rfl) safe, is]; rfl
    · rw [records (by rw [is]; rfl) safe, is]; rfl

/-! ### PARK in RELEASE (R46, R47, R50) -/

/-- A history of at most 8 records drops its oldest when it is full (R63). -/
theorem pushRecord_of_le {history : List AbortRecord} (bound : history.length ≤ 8) (r : AbortRecord) :
    pushRecord history r = (if history.length = 8 then history.drop 1 else history) ++ [r] := by
  unfold pushRecord
  by_cases full : history.length = 8
  · simp [full]
  · rw [if_neg (by omega), if_neg full]

/-- What the counters make of an event depends on the counters alone (R174). -/
theorem deliver_counters_congr (e : CounterEvent) (kinds : Byte) {t : State} (same : t.counters = s.counters) :
    (deliver e kinds t).counters = (deliver e kinds s).counters := by
  have each : (deliver e kinds t).counters.counters = (deliver e kinds s).counters.counters := by
    apply Vector.ext
    intro i inside
    have one := deliver_counters e kinds t ⟨i, inside⟩
    have other := deliver_counters e kinds s ⟨i, inside⟩
    rw [same] at one
    exact one.trans other.symm
  have table : (deliver e kinds t).counters.conditions = (deliver e kinds s).counters.conditions := by
    rw [deliver, offerAll_conditions, deliver, offerAll_conditions, same]
  cases one : (deliver e kinds t).counters
  cases other : (deliver e kinds s).counters
  simp_all

theorem abortedState_counters (cause : AbortCause) (a speed : Nat) :
    (abortedState cause a speed s).counters = (deliver .regimeEvent 6 s).counters :=
  deliver_counters_congr s _ _ rfl

/-- Settles O28: PARK in RELEASE. -/
theorem parkAbortsARelease : Obligations.ParkAbortsARelease := by
  unfold Obligations.ParkAbortsARelease
  intro b s h release held bound a record history captured
  have start : alphaAt .release s.regime.blend (now s) = a := by rw [held]; rfl
  have pushed : pushRecord s.regime.history record = history := pushRecord_of_le bound record
  have regime : abortedRegime .parkRequest a (speedNow s) s =
      { s.regime with regime := .capture, blend := some (captureBlend a s), history := history } := by
    rw [← pushed]
    rfl
  have same : captured = abortedState .parkRequest a (speedNow s) s := by
    rw [abortedState, regime]
    rfl
  rw [exec_park_of_takesAtOnce h]
  refine ⟨transientAbort .parkRequest (speedNow s) s, ?_, ?_⟩
  · simp only [takePark, release]
  · have frame := abortedState_frame s .parkRequest a (speedNow s)
    have counters := abortedState_counters s .parkRequest a (speedNow s)
    rw [transientAbort_eq s .parkRequest (speedNow s) release start]
    rw [regime, ← same] at frame
    rw [← same] at counters ⊢
    clear_value captured
    by_cases upright : a = 0
    · rw [if_pos upright, uprightState, ← counters]
      simp [frame, upright, postRegimeNotice]
    · rw [if_neg upright, ← counters]
      simp [frame, upright]
      rfl

end Sys2Proof.Machine
end

section
/-! CLEAR and SAFE entry: the exact state an accepted CLEAR leaves, and what SAFE entry does to the mechanism (R57 to R59,
R61). -/

namespace Sys2Proof.Machine

variable (s : State)

/-! ### Both drives OFF beside other writes (R146, R148, R154) -/

/-- What leaving a mode tells depends on the drive alone. -/
theorem leavingTold_beside (d : DriveId) {u : State} (time : now u = now s)
    (ends : endsSaturation (getDrive u d) = endsSaturation (getDrive s d)) :
    leavingTold d (beside u s) = beside u (leavingTold d s) := by
  unfold leavingTold
  rw [show getDrive (beside u s) d = getDrive u d by cases d <;> rfl, ends]
  split
  · exact deliverSaturated_beside d false u s time
  · rfl

/-- Both drives with their bridges off (R148). -/
def drivesOff (u : State) : State :=
  { u with drives := { u.drives with tilt := offRecord u.drives.tilt, steer := offRecord u.drives.steer } }

theorem bothOff_beside {u : State} (time : now u = now s)
    (ends : ∀ d, endsSaturation (getDrive u d) = endsSaturation (getDrive s d)) :
    bothOff (beside u s) = beside (drivesOff u) (leavingTold .steer (leavingTold .tilt s)) := by
  have told := leavingTold_eq_beside .tilt s
  have later : now (leavingTold .tilt s) = now s := by rw [told]; rfl
  have steerEnds : endsSaturation (getDrive u .steer) = endsSaturation (getDrive (leavingTold .tilt s) .steer) := by
    rw [getDrive_leavingTold]
    exact ends .steer
  unfold bothOff
  rw [commandOff_eq .tilt, leavingTold_beside s .tilt time (ends .tilt)]
  have written : setDrive .tilt (offRecord (getDrive (beside u s) .tilt)) (beside u (leavingTold .tilt s)) =
      beside (setDrive .tilt (offRecord u.drives.tilt) u) (leavingTold .tilt s) := rfl
  have steerTold := leavingTold_beside (u := setDrive .tilt (offRecord u.drives.tilt) u) _ .steer
    (time.trans later.symm) steerEnds
  rw [written, commandOff_eq, steerTold]
  rfl

/-- OFF commands to both drives write their records and tell of the saturations that end. -/
theorem bothOff_eq : bothOff s = beside (drivesOff s) (leavingTold .steer (leavingTold .tilt s)) :=
  bothOff_beside s rfl fun _ => rfl

/-! ### Latched faults dropped (R61, R99, R112, R160, R168) -/

/-- The record of a channel whose fault is dropped (R99). -/
def unlatchedChannel (c : Channel) : Channel :=
  if c.state = .fault then { c with state := .unhomed, lastDiff := none, suspectStart := none } else c

/-- The record of a drive whose fault is dropped (R160). -/
def unlatchedDrive (r : Drive) : Drive := if r.mode = .fault then bridgeOff r else r

/-- The record of a wheel whose fault is dropped (R112). -/
def unlatchedWheel (t : Time) (w : Wheel) : Wheel := if w.state = .invalid then ⟨.stopped, t, none, 0⟩ else w

/-- The record of a brake whose fault is dropped (R168). -/
def unlatchedBrake (s : State) : Brake :=
  if s.drives.brake.state = .brakeFault then
    if s.pins.brks then ⟨.engaging, false, some (after (now s) 150000)⟩ else ⟨.engaged, false, none⟩
  else s.drives.brake

theorem clearChannel_eq (c : ChannelId) : clearChannel c s = setChannel c (unlatchedChannel (getChannel s c)) s := by
  unfold clearChannel unlatchedChannel
  split
  · rfl
  · cases c <;> rfl

theorem clearChannels_eq :
    clearChannels s =
      { s with channels :=
          ⟨unlatchedChannel s.channels.tilt, unlatchedChannel s.channels.steer, unlatchedChannel s.channels.bar⟩ } := by
  rw [clearChannels, clearChannel_eq _ .tilt, clearChannel_eq _ .steer, clearChannel_eq _ .bar]
  rfl

theorem clearDrive_eq (d : DriveId) : clearDrive d s = setDrive d (unlatchedDrive (getDrive s d)) s := by
  unfold clearDrive unlatchedDrive
  split
  · rfl
  · exact (setDrive_getDrive d s).symm

theorem clearDrives_eq :
    clearDrive .steer (clearDrive .tilt s) =
      { s with drives := { s.drives with
          tilt := unlatchedDrive s.drives.tilt, steer := unlatchedDrive s.drives.steer } } := by
  rw [clearDrive_eq _ .tilt, clearDrive_eq _ .steer]
  rfl

theorem clearWheel_eq (w : WheelId) : clearWheel w s = setWheel w (unlatchedWheel (now s) (getWheel s w)) s := by
  unfold clearWheel unlatchedWheel
  split
  · rfl
  · cases w <;> rfl

theorem clearWheels_eq :
    clearWheels s =
      allStoppedStep { s with wheels := { s.wheels with
          fl := unlatchedWheel (now s) s.wheels.fl
          fr := unlatchedWheel (now s) s.wheels.fr
          rr := unlatchedWheel (now s) s.wheels.rr } } := by
  rw [clearWheels, clearWheel_eq _ .fl, clearWheel_eq _ .fr, clearWheel_eq _ .rr]
  rfl

theorem clearBrake_eq : clearBrake s = setBrake (unlatchedBrake s) s := by
  unfold clearBrake unlatchedBrake
  split
  · exact startEngaging_eq s
  · rfl

/-- The state with every latched fault dropped, before the test for three STOPPED wheels (R61). -/
def unlatched (s : State) : State :=
  { s with
    channels :=
      ⟨unlatchedChannel s.channels.tilt, unlatchedChannel s.channels.steer, unlatchedChannel s.channels.bar⟩
    wheels := { s.wheels with
      fl := unlatchedWheel (now s) s.wheels.fl
      fr := unlatchedWheel (now s) s.wheels.fr
      rr := unlatchedWheel (now s) s.wheels.rr }
    drives := { s.drives with
      tilt := unlatchedDrive s.drives.tilt, steer := unlatchedDrive s.drives.steer, brake := unlatchedBrake s } }

theorem dropFaults_eq_step : dropFaults s = allStoppedStep (unlatched s) := by
  rw [dropFaults, clearWheels_eq, clearBrake_eq, clearDrives_eq, clearChannels_eq]
  rfl

/-- All three wheels are STOPPED (R117). -/
def allStopped (s : State) : Bool :=
  decide (s.wheels.fl.state = .stopped ∧ s.wheels.fr.state = .stopped ∧ s.wheels.rr.state = .stopped)

/-- Wheel slip told as ended when all three wheels are STOPPED (R117, R118). -/
def slipTold (still : Bool) (s : State) : State := if still = true ∧ s.wheels.slip = true then deliverSlipWheel false s else s

theorem slipTold_beside (still : Bool) {u : State} (time : now u = now s) (slip : u.wheels.slip = s.wheels.slip) :
    slipTold still (beside u s) = beside u (slipTold still s) := by
  unfold slipTold
  rw [show (beside u s).wheels.slip = s.wheels.slip from slip]
  split
  · exact deliverConditions_beside _ u s time
  · rfl

theorem slipTold_eq_beside (still : Bool) : slipTold still s = beside s (slipTold still s) := slipTold_beside s still rfl rfl

/-- The all-stopped step in one write of the wheel unit (R117). -/
theorem allStoppedStep_eq :
    allStoppedStep s =
      beside { s with wheels := { s.wheels with
          slip := s.wheels.slip && !allStopped s, run := if allStopped s then none else s.wheels.run } }
        (slipTold (allStopped s) s) := by
  unfold allStoppedStep
  by_cases still : s.wheels.fl.state = .stopped ∧ s.wheels.fr.state = .stopped ∧ s.wheels.rr.state = .stopped
  · have yes : allStopped s = true := decide_eq_true still
    rw [if_pos still, yes]
    cases slip : s.wheels.slip with
    | false => simp [changeSlip, slip, setRun, slipTold, beside]
    | true =>
      have told : changeSlip false s =
          beside { s with wheels := { s.wheels with slip := false } } (deliverSlipWheel false s) := by
        rw [changeSlip, if_neg (by simp [slip])]
        exact deliverConditions_beside _ { s with wheels := { s.wheels with slip := false } } s rfl
      have ended : slipTold true s = deliverSlipWheel false s := if_pos ⟨rfl, slip⟩
      rw [told, ended]
      generalize deliverSlipWheel false s = delivered
      rfl
  · have no : allStopped s = false := decide_eq_false still
    rw [if_neg still, no]
    simp [slipTold, beside]

/-- All three wheels are STOPPED once the faults are dropped (R117). -/
def stillUnlatched (s : State) : Bool := allStopped (unlatched s)

/-- The blocks as the dropped faults leave them (R61, R117). -/
def faultless (s : State) : State :=
  { unlatched s with wheels := { (unlatched s).wheels with
      slip := s.wheels.slip && !stillUnlatched s, run := if stillUnlatched s then none else s.wheels.run } }

theorem dropFaults_eq : dropFaults s = beside (faultless s) (slipTold (stillUnlatched s) s) := by
  have told : slipTold (stillUnlatched s) (unlatched s) = beside (unlatched s) (slipTold (stillUnlatched s) s) :=
    slipTold_beside s (stillUnlatched s) (u := unlatched s) rfl rfl
  rw [dropFaults_eq_step, allStoppedStep_eq]
  change beside (faultless s) (slipTold (stillUnlatched s) (unlatched s)) = _
  rw [told]
  rfl

/-- A dropped fault ends no saturation (R154, R160). -/
theorem endsSaturation_unlatchedDrive (r : Drive) : endsSaturation (unlatchedDrive r) = endsSaturation r := by
  unfold unlatchedDrive
  split
  · next fault =>
    simp only [endsSaturation, bridgeOff, fault]
    rfl
  · rfl

theorem offRecord_unlatchedDrive (r : Drive) :
    offRecord (unlatchedDrive r) = if r.mode = .fault then bridgeOff r else offRecord r := by
  unfold unlatchedDrive
  split
  · exact offRecord_of_resting (.inl rfl)
  · rfl

/-- What an accepted CLEAR tells the counters (R117, R118, R154). -/
def clearTold (s : State) : State := leavingTold .steer (leavingTold .tilt (slipTold (stillUnlatched s) s))

theorem clearTold_eq_beside : clearTold s = beside s (clearTold s) := by
  unfold clearTold
  rw [leavingTold_eq_beside .steer, leavingTold_eq_beside .tilt, slipTold_eq_beside]
  rfl

theorem bothOff_dropFaults : bothOff (dropFaults s) = beside (drivesOff (faultless s)) (clearTold s) := by
  have told := slipTold_eq_beside s (stillUnlatched s)
  rw [dropFaults_eq]
  refine bothOff_beside _ ?_ fun d => ?_
  · rw [told]
    rfl
  · rw [told]
    cases d <;> exact endsSaturation_unlatchedDrive _

/-- The state of an accepted CLEAR before its notice (R61). -/
def clearedState (s : State) : State :=
  beside (putRegime { s.regime with regime := .parked, history := [], safeHolding := none } (drivesOff (faultless s)))
    (clearTold s)

theorem clearStep_of_parked (parked : s.regime.regime = .parked) : clearStep s = clearedState s := by
  rw [clearStep_eq, if_pos parked, bothOff_dropFaults, clearedState, ← parked]
  rfl

theorem clearStep_of_safe (safe : s.regime.regime = .safe) :
    clearStep s = postRegimeNotice ⟨.parked, .safe, none, 0, msOf (now s)⟩ (clearedState s) := by
  rw [clearStep_eq, if_neg (by simp [safe]), bothOff_dropFaults, changeRegime_putRegime, ← safe]
  rfl

/-- A write of every block but those a delivery keeps, beside the delivery. -/
theorem clearedState_eq :
    clearedState s =
      { clearTold s with
        regime := { s.regime with regime := .parked, history := [], safeHolding := none }
        channels := (unlatched s).channels
        wheels := (faultless s).wheels
        drives := (drivesOff (faultless s)).drives } := by
  have framed := clearTold_eq_beside s
  unfold clearedState
  generalize clearTold s = told at framed ⊢
  conv => rhs; rw [framed]
  rfl

/-! ### The checks of CLEAR (R61) -/

theorem takeClear_of_refusal {code : RefusalCode} (refused : clearRefusal s = some code) :
    takeClear s = refuse .clear code s := by rw [takeClear, refused]

theorem takeClear_of_none (passes : clearRefusal s = none) : takeClear s = accept .clear (clearStep s) := by
  rw [takeClear, passes]

theorem clearRefusal_of_rest (rests : s.regime.regime = .parked ∨ s.regime.regime = .safe) :
    clearRefusal s = if selectedSpeed s ≠ none ∧ speedNow s < (par s).vPark then none else some .tooFast := by
  obtain regime | regime := rests <;> simp [clearRefusal, regime]

/-- Settles O30: the checks of CLEAR and the exact state of an accepted CLEAR. -/
theorem clearRequest : Obligations.ClearRequest := by
  unfold Obligations.ClearRequest
  intro s h
  rw [exec_clear_of_takesAtOnce h]
  refine ⟨fun homing => ?_, fun homing parked safe => ?_, fun rests => ⟨fun unknown => ?_, fun v known =>
    ⟨fun fast => ?_, fun slow => ?_⟩⟩⟩
  · rw [takeClear_of_refusal s (code := .busy) (by simp [clearRefusal, homing])]
  · refine congrArg _ (takeClear_of_refusal s ?_)
    unfold clearRefusal
    split <;> simp_all
  · rw [takeClear_of_refusal s]
    rw [clearRefusal_of_rest s rests, if_neg (by simp [unknown])]
  · rw [takeClear_of_refusal s]
    rw [clearRefusal_of_rest s rests, speedNow_of_some s known, if_neg (by omega)]
  · intro unlatched off wheel still slipless cleared
    have passes : clearRefusal s = none := by
      rw [clearRefusal_of_rest s rests, speedNow_of_some s known, if_pos ⟨by simp [known], slow⟩]
    have stillSame : still = stillUnlatched s := by
      simp only [still, List.forall_mem_cons, List.not_mem_nil, false_imp_iff, implies_true, and_true]
      rfl
    have told : slipless = slipTold (stillUnlatched s) s := by rw [← stillSame]; rfl
    have wheels : (faultless s).wheels =
        ⟨wheel .fl, wheel .fr, wheel .rr, s.wheels.slip && !still, if still then none else s.wheels.run⟩ := by
      rw [stillSame]
      rfl
    have drives : (drivesOff (faultless s)).drives =
        { s.drives with tilt := off .tilt, steer := off .steer, brake := unlatchedBrake s } := by
      show ({ s.drives with
          tilt := offRecord (unlatchedDrive s.drives.tilt), steer := offRecord (unlatchedDrive s.drives.steer)
          brake := unlatchedBrake s } : DriveUnit) = _
      rw [offRecord_unlatchedDrive, offRecord_unlatchedDrive]
      rfl
    have same : cleared = clearedState s := by
      rw [clearedState_eq, clearTold, ← told, wheels, drives]
      rfl
    rw [takeClear_of_none s passes]
    obtain parked | safe := rests
    · rw [clearStep_of_parked s parked, if_neg (by simp [parked]), same]
    · rw [clearStep_of_safe s safe, if_pos safe, same]

end Sys2Proof.Machine
end

section
/-! SAFE entry: what it does to the channels, the brake and the drives, and what it tells (R57 to R59, R99). -/

namespace Sys2Proof.Machine

variable (s : State)

/-! ### A command to an unsaturated drive tells nothing (R146, R154) -/

theorem leftRecord_unsaturated {r : Drive} (unsaturated : r.saturated = false) : (leftRecord r).saturated = false := by
  unfold leftRecord
  cases r.mode <;> simp [unsaturated]

theorem commandedRecord_unsaturated (d : DriveId) (cmd : DriveCommand) (unsaturated : (getDrive s d).saturated = false) :
    (commandedRecord d cmd s).saturated = false := by
  have left := leftRecord_unsaturated unsaturated
  cases cmd with
  | off =>
    unfold commandedRecord offRecord
    dsimp only
    split
    · exact unsaturated
    · exact left
  | creep | hold | run =>
    unfold commandedRecord
    dsimp only
    split
    · exact unsaturated
    · exact left

/-- A command to an unsaturated drive writes its record alone (R146). -/
theorem commandDrive_of_unsaturated (d : DriveId) (cmd : DriveCommand) (able : (getDrive s d).mode ≠ .fault)
    (unsaturated : (getDrive s d).saturated = false) :
    commandDrive d cmd s = setDrive d (commandedRecord d cmd s) s := by
  rw [commandDrive_eq s d cmd able]
  exact putDrive_of_same s d _ (unsaturated.trans (commandedRecord_unsaturated s d cmd unsaturated).symm)

theorem commandDrive_tells_nothing (d : DriveId) (cmd : DriveCommand) (unsaturated : (getDrive s d).saturated = false) :
    (commandDrive d cmd s).link = s.link ∧ (commandDrive d cmd s).counters = s.counters := by
  by_cases fault : (getDrive s d).mode = .fault
  · rw [commandDrive_of_fault s d cmd fault]
    exact ⟨rfl, rfl⟩
  · rw [commandDrive_of_unsaturated s d cmd fault unsaturated]
    cases d <;> exact ⟨rfl, rfl⟩

/-- A HOLD command sets its target unless the drive is in FAULT (R147). -/
theorem commandHold_holdTarget (d : DriveId) (x : Int) (able : (getDrive s d).mode ≠ .fault) :
    (getDrive (commandDrive d (.hold x) s) d).holdTarget = some x := by
  rw [commandDrive_eq s d _ able, getDrive_putDrive]
  rfl

/-! ### Channels that seek no longer (R99) -/

/-- The record of a channel sent back from SEEKING (R99). -/
def abandonedChannel (c : Channel) : Channel :=
  if c.state = .seeking then { c with state := .unhomed, lastDiff := none, suspectStart := none } else c

theorem abandonSeek_eq (c : ChannelId) : abandonSeek c s = setChannel c (abandonedChannel (getChannel s c)) s := by
  unfold abandonSeek abandonedChannel
  split
  · rfl
  · cases c <;> rfl

theorem abandonHoming_eq :
    abandonHoming s =
      if s.regime.regime = .homing then
        { s with channels := { s.channels with
            tilt := abandonedChannel s.channels.tilt, steer := abandonedChannel s.channels.steer } }
      else s := by
  unfold abandonHoming
  rw [abandonSeek_eq _ .tilt, abandonSeek_eq _ .steer]
  rfl

/-- Whether a channel has an angle does not change as it is sent back from SEEKING (R87, R99). -/
theorem angleState_abandonedChannel (c : Channel) : angleState (abandonedChannel c).state = angleState c.state := by
  unfold abandonedChannel
  split
  · next seeking => rw [seeking]; rfl
  · rfl

theorem angleState_abandonHoming (c : ChannelId) :
    angleState (getChannel (abandonHoming s) c).state = angleState (getChannel s c).state := by
  rw [abandonHoming_eq]
  split
  · cases c with
    | tilt | steer => exact angleState_abandonedChannel _
    | bar => rfl
  · rfl

theorem getChannel_abandonHoming (c : ChannelId) :
    getChannel (abandonHoming s) c =
      if s.regime.regime = .homing ∧ c ≠ .bar ∧ (getChannel s c).state = .seeking then
        { getChannel s c with state := .unhomed, lastDiff := none, suspectStart := none }
      else getChannel s c := by
  rw [abandonHoming_eq]
  by_cases homing : s.regime.regime = .homing
  · rw [if_pos homing]
    cases c <;> simp [homing, getChannel, abandonedChannel]
  · rw [if_neg homing, if_neg fun h => homing h.1]

/-! ### The mechanism of SAFE entry -/

/-- The mechanism reads the brake after the engage command (R58; log 14). -/
theorem engageBrake_abandonHoming : engageBrake (abandonHoming s) = engageBrake s := by
  rw [abandonHoming_eq]
  split <;> rfl

/-- The state after the engage command of SAFE entry. -/
theorem commandEngage_abandonHoming :
    commandEngage (abandonHoming s) = setBrake (engageBrake s) (abandonHoming s) := by
  rw [commandEngage_eq, engageBrake_abandonHoming]

theorem tiltHolds_iff :
    tiltHolds s = true ↔
      s.drives.tilt.mode ≠ .fault ∧ (s.channels.tilt.state = .homed ∨ s.channels.tilt.state = .suspect) ∧
        s.drives.brake.state ≠ .engaged ∧ s.drives.brake.state ≠ .brakeFault := by
  simp [tiltHolds, angleState, and_assoc]

/-- The state of SAFE entry as its drives are commanded: channels given up and the brake engaging. -/
def engagedState (s : State) : State := commandEngage (abandonHoming s)

theorem engagedState_eq : engagedState s = setBrake (engageBrake s) (abandonHoming s) := commandEngage_abandonHoming s

theorem engagedState_frame :
    (engagedState s).pending = s.pending ∧ (engagedState s).pins = s.pins ∧ (engagedState s).link = s.link ∧
    (engagedState s).timeBase = s.timeBase ∧ (engagedState s).intake = s.intake ∧ (engagedState s).wheels = s.wheels ∧
    (engagedState s).law = s.law ∧ (engagedState s).counters = s.counters ∧ (engagedState s).store = s.store := by
  rw [engagedState_eq]
  simp [setBrake]

@[simp] theorem engagedState_brake : (engagedState s).drives.brake = engageBrake s := by
  rw [engagedState_eq]
  rfl

@[simp] theorem getDrive_engagedState (d : DriveId) : getDrive (engagedState s) d = getDrive s d := by
  rw [engagedState_eq, abandonHoming_eq]
  cases d <;> split <;> rfl

theorem angleState_engagedState (c : ChannelId) :
    angleState (getChannel (engagedState s) c).state = angleState (getChannel s c).state := by
  rw [engagedState_eq]
  exact (congrArg angleState (by cases c <;> rfl)).trans (angleState_abandonHoming s c)

theorem getChannel_safeMechanism (c : ChannelId) : getChannel (safeMechanism s) c = getChannel (abandonHoming s) c := by
  have channels : (safeMechanism s).channels = (abandonHoming s).channels := by simp [safeMechanism]
  cases c <;> simp [getChannel, channels]

theorem angleState_iff (st : ChannelState) : angleState st = true ↔ st = .homed ∨ st = .suspect := by
  simp [angleState]

/-- When the tilt drive holds at SAFE entry (R58; log 14). -/
theorem tiltHolds_engagedState :
    tiltHolds (engagedState s) = true ↔
      s.drives.tilt.mode ≠ .fault ∧ (s.channels.tilt.state = .homed ∨ s.channels.tilt.state = .suspect) ∧
        (engageBrake s).state ≠ .engaged ∧ (engageBrake s).state ≠ .brakeFault := by
  have drive : (engagedState s).drives.tilt = s.drives.tilt := getDrive_engagedState s .tilt
  have channel : angleState (engagedState s).channels.tilt.state = angleState s.channels.tilt.state :=
    angleState_engagedState s .tilt
  rw [tiltHolds_iff, drive, engagedState_brake, ← angleState_iff, channel, angleState_iff]

/-- The state of SAFE entry with its tilt drive commanded (R58). -/
def heldState (s : State) : State := commandDrive .tilt (safeTiltCommand (engagedState s)) (engagedState s)

theorem safeMechanism_eq : safeMechanism s = commandDrive .steer (safeSteerCommand (heldState s)) (heldState s) := rfl

theorem getDrive_safeMechanism_tilt : getDrive (safeMechanism s) .tilt = getDrive (heldState s) .tilt := by
  rw [safeMechanism_eq]
  exact commandDrive_other .steer .tilt _ _ (by decide)

theorem getDrive_heldState_steer : getDrive (heldState s) .steer = getDrive s .steer := by
  rw [heldState, commandDrive_other .tilt .steer _ _ (by decide), getDrive_engagedState]

theorem safeTiltCommand_of_holds (holds : tiltHolds (engagedState s) = true) :
    safeTiltCommand (engagedState s) = .hold s.law.lambdaT := by
  obtain ⟨-, -, -, -, -, -, law, -⟩ := engagedState_frame s
  rw [safeTiltCommand, if_pos holds, law]

/-- The steer drive runs at SAFE entry when STEER and BAR have angles (R59). -/
theorem safeSteerCommand_heldState (able : s.drives.steer.mode ≠ .fault) :
    safeSteerCommand (heldState s) =
      if (s.channels.steer.state = .homed ∨ s.channels.steer.state = .suspect) ∧
          (s.channels.bar.state = .homed ∨ s.channels.bar.state = .suspect) then .run
      else .off := by
  have drive : (heldState s).drives.steer = s.drives.steer := getDrive_heldState_steer s
  have channels : (heldState s).channels = (engagedState s).channels := by simp [heldState]
  have steer : angleState (engagedState s).channels.steer.state = angleState s.channels.steer.state :=
    angleState_engagedState s .steer
  have bar : angleState (engagedState s).channels.bar.state = angleState s.channels.bar.state :=
    angleState_engagedState s .bar
  unfold safeSteerCommand
  rw [drive, channels, steer, bar]
  simp only [able, ne_eq, not_false_eq_true, true_and, angleState_iff]

/-- The mode of the steer drive after SAFE entry (R59). -/
theorem safeMechanism_steer_mode (able : s.drives.steer.mode ≠ .fault) :
    (safeMechanism s).drives.steer.mode = commandedMode (safeSteerCommand (heldState s)) := by
  have before_ : (getDrive (heldState s) .steer).mode ≠ .fault := by
    rw [getDrive_heldState_steer]
    exact able
  exact (commandDrive_mode .steer _ (heldState s)).trans (if_neg before_)

/-- With no saturated drive SAFE entry tells nothing before its notice (R154). -/
theorem safeMechanism_tells_nothing (tilt : s.drives.tilt.saturated = false) (steer : s.drives.steer.saturated = false) :
    (safeMechanism s).link = s.link ∧ (safeMechanism s).counters = s.counters := by
  obtain ⟨-, -, link, -, -, -, -, counters, -⟩ := engagedState_frame s
  have held := commandDrive_tells_nothing (engagedState s) .tilt (safeTiltCommand (engagedState s))
    (by rw [getDrive_engagedState]; exact tilt)
  have steered := commandDrive_tells_nothing (heldState s) .steer (safeSteerCommand (heldState s))
    (by rw [getDrive_heldState_steer]; exact steer)
  exact ⟨steered.1.trans (held.1.trans link), steered.2.trans (held.2.trans counters)⟩

/-- Settles O37: what entry into SAFE does. -/
theorem safeEntry : Obligations.SafeEntry := by
  unfold Obligations.SafeEntry
  intro cause speed s outside brake holds steers
  have brakeIs : brake = engageBrake s := by
    simp only [brake, commandEngage_eq]
    rfl
  have holdsIff : tiltHolds (engagedState s) = true ↔ holds := by
    simp only [holds, brakeIs]
    exact tiltHolds_engagedState s
  have holdsIs : tiltHolds (engagedState s) = decide holds :=
    Bool.eq_iff_iff.mpr (holdsIff.trans decide_eq_true_iff.symm)
  have kinds : regimeKinds false (s.regime.regime == .release) false true =
      if s.regime.regime = .release then 10 else 8 := by
    rw [regimeKinds_safe]
    simp only [beq_iff_eq]
  have tilt : (putRegime (safeRegime cause speed s) (safeMechanism s)).drives.tilt = getDrive (heldState s) .tilt :=
    getDrive_safeMechanism_tilt s
  have before_ : getDrive (engagedState s) .tilt = s.drives.tilt := getDrive_engagedState s .tilt
  refine ⟨putRegime (safeRegime cause speed s) (safeMechanism s), ?_, ?_, ?_, fun held => ⟨?_, ?_⟩, fun free => ?_,
    fun fault => ?_, fun able => ?_, fun c => ?_, ?_⟩
  · rw [enterSafe_eq, kinds]
    rfl
  · rw [← holdsIs]
    rfl
  · have kept : (safeMechanism s).drives.brake = engageBrake (abandonHoming s) := by
      simp [safeMechanism, commandEngage_eq, setBrake]
    rw [brakeIs, ← engageBrake_abandonHoming]
    exact kept
  · rw [tilt, heldState, commandDrive_mode, before_, if_neg held.1, safeTiltCommand_of_holds s (holdsIff.mpr held)]
    rfl
  · rw [tilt, heldState, safeTiltCommand_of_holds s (holdsIff.mpr held)]
    exact commandHold_holdTarget _ .tilt _ (by rw [before_]; exact held.1)
  · have off : safeTiltCommand (engagedState s) = .off := if_neg (free ∘ holdsIff.mp)
    rw [tilt, heldState, commandDrive_mode, before_, off]
    rfl
  · refine (commandDrive_mode .steer _ (heldState s)).trans (if_pos ?_)
    rw [getDrive_heldState_steer]
    exact fault
  · refine (safeMechanism_steer_mode s able).trans ?_
    rw [safeSteerCommand_heldState s able]
    by_cases runs : steers
    · rw [if_pos runs, if_pos runs]
      rfl
    · rw [if_neg runs, if_neg runs]
      rfl
  · rw [← getChannel_abandonHoming, ← getChannel_safeMechanism]
    cases c <;> rfl
  · refine ⟨?_, ?_, ?_, ?_, ?_, ?_, ?_, safeMechanism_tells_nothing s⟩ <;> simp [safeMechanism]

end Sys2Proof.Machine
end

section
/-! The law engine: the inputs, reports and sample of a computation (R6 to R10, R25 to R28, R77), the tables (R12, R15, R16)
and the stages (R13 to R23, R67 to R74). -/

namespace Sys2Proof.Machine

variable (s : State)

/-! ### The bar ring, derate, angles and quality (R25, R87, R135, R182) -/

theorem pushBar_of_short {ring : List Int} (b : Int) (short : ring.length < 6) : pushBar ring b = ring ++ [b] := by
  rw [pushBar, if_neg (by omega)]

theorem pushBar_of_full (oldest : Int) {rest : List Int} (b : Int) (full : (oldest :: rest).length = 6) :
    pushBar (oldest :: rest) b = rest ++ [b] := by
  rw [pushBar, if_pos (by omega), full]
  rfl

theorem derate_iff (u : CounterUnit) :
    derate u = true ↔ ∃ i : Fin 8, u.counters[i].config.action = .derate ∧ u.counters[i].reached = true := by
  unfold derate
  simp only [List.any_eq_true, Bool.and_eq_true, beq_iff_eq, Vector.mem_toList_iff]
  constructor
  · rintro ⟨c, mem, holds⟩
    obtain ⟨i, inside, rfl⟩ := Vector.mem_iff_getElem.mp mem
    exact ⟨⟨i, inside⟩, holds⟩
  · rintro ⟨i, holds⟩
    exact ⟨_, Vector.getElem_mem i.isLt, holds⟩

theorem angle_of_angleState {c : ChannelId} (present : (getChannel s c).state = .homed ∨ (getChannel s c).state = .suspect) :
    angle s c = some (angleOfCount (getChannel s c).count (cpr (par s) c)) :=
  if_pos ((angleState_iff _).mpr present)

theorem angle_of_no_angleState {c : ChannelId} (homed : (getChannel s c).state ≠ .homed)
    (suspect : (getChannel s c).state ≠ .suspect) : angle s c = none :=
  if_neg fun present => ((angleState_iff _).mp present).elim homed suspect

theorem quality_of_deadline_none (gone : s.intake.deadline = none) : quality s = .stale := by
  rw [quality, qualityOf, gone]

theorem quality_of_deadline (held : s.intake.deadline.isSome = true) :
    quality s = if s.intake.latestRoll = some .unaged then .unaged else .fresh := by
  obtain ⟨t, deadline⟩ := Option.isSome_iff_exists.mp held
  rw [quality, qualityOf, deadline]

/-! ### The inputs and the reports of a computation (R7 to R10, R27, R28, R77) -/

theorem barInput_eq (a : Option Int) : barInput a = ⟨a.getD 0, a.isSome⟩ := by cases a <;> rfl

/-- The cap by slip, quality and derate (R10). -/
theorem cap_eq :
    cap s =
      if s.wheels.slip = true ∨ s.intake.yawSlip = true ∨ quality s = .stale then 512
      else if quality s = .unaged ∨ derate s.counters = true then 768 else 1024 := by
  unfold cap capOf
  simp [or_assoc]

/-- The clamps are told while a flag is set, and LEAN_LIMITED when it changes (R27, R28, R77). -/
theorem reportClamps_spelt (before_ : Bool) (f : LeanFlags) (g : SteerFlags) :
    reportClamps before_ f g s =
      let clamped :=
        if f = ⟨false, false, false⟩ then s else deliver .lawClamp (maskOf [f.accel, f.limit, f.rate]) s
      let limited := if f.limit = before_ then clamped else deliverLeanLimited f.limit clamped
      if g = ⟨false, false⟩ then limited else deliver .steerClamp (maskOf [g.range, g.rate]) limited := by
  obtain ⟨accel, limit, rate⟩ := f
  obtain ⟨range, steerRate⟩ := g
  have lean : (accel || limit || rate) = true ↔ ¬ (⟨accel, limit, rate⟩ : LeanFlags) = ⟨false, false, false⟩ := by
    cases accel <;> cases limit <;> cases rate <;> decide
  have steer : (range || steerRate) = true ↔ ¬ (⟨range, steerRate⟩ : SteerFlags) = ⟨false, false⟩ := by
    cases range <;> cases steerRate <;> decide
  unfold reportClamps
  dsimp only
  simp only [lean, steer, ite_not]

/-- Settles O39: the inputs, the record, the reports and the sample of a law computation. -/
theorem lawExpiry : Obligations.LawExpiry := by
  unfold Obligations.LawExpiry
  refine ⟨fun ring b => ⟨fun short => pushBar_of_short b short, fun oldest rest is full => ?_⟩, derate_iff, fun s c =>
    ⟨fun present => angle_of_angleState s present, fun homed suspect => angle_of_no_angleState s homed suspect⟩, fun s =>
    ⟨quality_of_deadline_none s, fun held aged => ?_, fun held unaged => ?_⟩, fun s expired running => ?_⟩
  · subst is
    exact pushBar_of_full oldest b full
  · rw [quality_of_deadline s held, if_neg (by simp [aged])]
  · rw [quality_of_deadline s held, if_pos unaged]
  · intro bar capNow inputs r ring computed clamped limited reported
    have due : lawDue s = true := (lawDue_iff s).mpr ⟨expired, running⟩
    have read : readInputs s = inputs := by
      rw [readInputs, barInput_eq, cap_eq]
      rfl
    simp only [exec_lawExpiry, execLawExpiry]
    rw [if_pos due, lawStep, read, reportClamps_spelt]
    rfl

end Sys2Proof.Machine
end

section
/-! The stages of the law: the speed map, the balance table, and the three targets (R12 to R23, R67 to R74). -/

namespace Sys2Proof.Machine

/-! ### The speed map (R12) -/

/-- Where the speeds rise, each is at most the ones after it. -/
theorem pairwise_of_speedsRise {points : List MapPoint} (rise : speedsRise points = true) :
    points.Pairwise (fun p q => p.speed < q.speed) := by
  induction points with
  | nil => exact .nil
  | cons p rest ih =>
    cases rest with
    | nil => simp
    | cons q tail =>
      simp only [speedsRise, Bool.and_eq_true, decide_eq_true_eq] at rise
      have later := ih rise.2
      refine List.pairwise_cons.mpr ⟨fun r mem => ?_, later⟩
      obtain rfl | deeper := List.mem_cons.mp mem
      · exact rise.1
      · exact Nat.lt_trans rise.1 ((List.pairwise_cons.mp later).1 r deeper)

/-- The search stops at the pair of points around the speed (R12). -/
theorem lookupFrom_of_between {p : MapPoint} {rest : List MapPoint} {v : Nat} (i : Nat)
    (rise : (p :: rest).Pairwise (fun p q => p.speed < q.speed)) (inside : i < rest.length)
    (low : ((p :: rest)[i]'(Nat.lt_succ_of_lt inside)).speed ≤ v) (high : v < rest[i].speed) :
    lookupFrom p v rest = between ((p :: rest)[i]'(Nat.lt_succ_of_lt inside)) rest[i] v := by
  induction i generalizing p rest with
  | zero =>
    obtain _ | ⟨q, tail⟩ := rest
    · simp at inside
    · exact if_pos high
  | succ i ih =>
    obtain _ | ⟨q, tail⟩ := rest
    · simp at inside
    · have later := (List.pairwise_cons.mp rise).2
      have reached : q.speed ≤ v := by
        cases i with
        | zero => exact low
        | succ i =>
          exact Nat.le_trans (Nat.le_of_lt ((List.pairwise_cons.mp later).1 _ (List.getElem_mem _))) low
      exact (if_neg (Nat.not_lt.mpr reached)).trans (ih later (Nat.lt_of_succ_lt_succ inside) low high)

/-- At and above every speed the search ends at the last point (R12). -/
theorem lookupFrom_of_last {p : MapPoint} {rest : List MapPoint} {v : Nat} (above : ∀ q ∈ rest, q.speed ≤ v) :
    lookupFrom p v rest = atPoint ((p :: rest).getLast (List.cons_ne_nil _ _)) := by
  induction rest generalizing p with
  | nil => rfl
  | cons q tail ih =>
    refine (if_neg (Nat.not_lt.mpr (above q List.mem_cons_self))).trans ?_
    rw [ih fun r mem => above r (List.mem_cons_of_mem _ mem), List.getLast_cons_cons]

/-- The points of a map, the first apart. -/
theorem toList_eq_cons (m : Vector MapPoint 9) : m.toList = m[0] :: m.toList.drop 1 := by
  have long : 0 < m.toList.length := by simp
  have first : m[0] = m.toList[0] := (Vector.getElem_toList _).symm
  rw [first]
  exact (List.getElem_cons_drop long).symm

theorem pairwise_of_mapOrdered {m : Vector MapPoint 9} (ordered : mapOrdered m = true) :
    m.toList.Pairwise (fun p q => p.speed < q.speed) := by
  simp only [mapOrdered, Bool.and_eq_true] at ordered
  exact pairwise_of_speedsRise ordered.2

theorem mapLookup_of_between {m : Vector MapPoint 9} {v : Nat} (i : Fin 8) (ordered : mapOrdered m = true)
    (low : m[i.val].speed ≤ v) (high : v < m[i.val + 1].speed) :
    mapLookup m v = between m[i.val] m[i.val + 1] v := by
  have rise := pairwise_of_mapOrdered ordered
  rw [toList_eq_cons] at rise
  have inside : i.val < (m.toList.drop 1).length := by simp
  have next : (m.toList.drop 1)[i.val] = m[i.val + 1] := by simp
  have here : (m[0] :: m.toList.drop 1)[i.val]'(Nat.lt_succ_of_lt inside) = m[i.val] := by
    simp only [← toList_eq_cons, Vector.getElem_toList]
  rw [← here] at low
  rw [← next] at high
  rw [mapLookup, lookupFrom_of_between i.val rise inside low high, here, next]

theorem mapLookup_of_last {m : Vector MapPoint 9} {v : Nat} (ordered : mapOrdered m = true) (above : m[8].speed ≤ v) :
    mapLookup m v = atPoint m[8] := by
  have rise := pairwise_of_mapOrdered ordered
  have all : ∀ q ∈ m.toList.drop 1, q.speed ≤ v := by
    intro q mem
    obtain ⟨i, inside, rfl⟩ := List.mem_iff_getElem.mp (List.mem_of_mem_drop mem)
    have bound : i < 9 := by simpa using inside
    refine Nat.le_trans ?_ above
    obtain last | before_ := Nat.lt_succ_iff_lt_or_eq.mp bound |>.symm
    · subst last
      simp
    · have := List.pairwise_iff_getElem.mp rise i 8 inside (by simp) before_
      simpa using Nat.le_of_lt this
  rw [mapLookup, lookupFrom_of_last all]
  simp only [← toList_eq_cons]
  simp [List.getLast_eq_getElem]

/-! ### The balance table (R15, R16) -/

/-- An entry of the balance table; above index 12 the last stands. -/
def balanceEntry (n : Nat) : Nat := balanceTable.getD n 4254

theorem balanceEntry_of_le {n : Nat} (large : 12 ≤ n) : balanceEntry n = 4254 := by
  obtain rfl | beyond := Nat.eq_or_lt_of_le large
  · rfl
  · rw [balanceEntry, List.getD_eq_getElem?_getD, List.getElem?_eq_none beyond, Option.getD_none]

theorem balanceEntry_le_succ (n : Nat) : balanceEntry n ≤ balanceEntry (n + 1) := by
  by_cases small : n < 12
  · have all : ∀ n : Fin 12, balanceEntry n ≤ balanceEntry (n + 1) := by decide
    exact all ⟨n, small⟩
  · exact Nat.le_of_eq ((balanceEntry_of_le (by omega)).trans (balanceEntry_of_le (by omega)).symm)

theorem balanceEntry_mono {m n : Nat} (le : m ≤ n) : balanceEntry m ≤ balanceEntry n := by
  induction le with
  | refl => exact Nat.le_refl _
  | step _ ih => exact Nat.le_trans ih (balanceEntry_le_succ _)

theorem balanceEntry_le (n : Nat) : balanceEntry n ≤ 4254 := by
  have bound := balanceEntry_mono (Nat.le_max_left n 12)
  rwa [balanceEntry_of_le (Nat.le_max_right n 12)] at bound

/-- Between two entries the balance lean is interpolated, rounded (R16). -/
theorem balanceMagnitude_eq (a : Nat) :
    balanceMagnitude a =
      balanceEntry (a / 750) + ((balanceEntry (a / 750 + 1) - balanceEntry (a / 750)) * (a % 750) + 375) / 750 := by
  unfold balanceMagnitude
  dsimp only
  split
  · next whole => simp [whole, balanceEntry]
  · rfl

theorem balanceMagnitude_segment (k : Nat) {r : Nat} (inside : r < 750) :
    balanceMagnitude (750 * k + r) =
      balanceEntry k + ((balanceEntry (k + 1) - balanceEntry k) * r + 375) / 750 := by
  have index : (750 * k + r) / 750 = k := by omega
  have rest : (750 * k + r) % 750 = r := by omega
  rw [balanceMagnitude_eq, index, rest]

/-- The balance lean stays below the next entry (R16). -/
theorem balanceMagnitude_le_entry (a : Nat) : balanceMagnitude a ≤ balanceEntry (a / 750 + 1) := by
  have rise := balanceEntry_le_succ (a / 750)
  have part : ((balanceEntry (a / 750 + 1) - balanceEntry (a / 750)) * (a % 750) + 375) / 750 ≤
      balanceEntry (a / 750 + 1) - balanceEntry (a / 750) := by
    have short : a % 750 ≤ 750 := Nat.le_of_lt (Nat.mod_lt a (by decide))
    have scaled := Nat.mul_le_mul_left (balanceEntry (a / 750 + 1) - balanceEntry (a / 750)) short
    omega
  rw [balanceMagnitude_eq]
  omega

theorem entry_le_balanceMagnitude (a : Nat) : balanceEntry (a / 750) ≤ balanceMagnitude a := by
  rw [balanceMagnitude_eq]
  exact Nat.le_add_right _ _

theorem balanceMagnitude_mono {a b : Nat} (le : a ≤ b) : balanceMagnitude a ≤ balanceMagnitude b := by
  obtain same | before_ := Nat.eq_or_lt_of_le (Nat.div_le_div_right (c := 750) le)
  · have rest : a % 750 ≤ b % 750 := by omega
    rw [balanceMagnitude_eq, balanceMagnitude_eq, same]
    exact Nat.add_le_add_left (Nat.div_le_div_right (Nat.add_le_add_right (Nat.mul_le_mul_left _ rest) _)) _
  · calc balanceMagnitude a ≤ balanceEntry (a / 750 + 1) := balanceMagnitude_le_entry a
      _ ≤ balanceEntry (b / 750) := balanceEntry_mono before_
      _ ≤ balanceMagnitude b := entry_le_balanceMagnitude b

theorem balanceMagnitude_le (a : Nat) : balanceMagnitude a ≤ 4254 :=
  Nat.le_trans (balanceMagnitude_le_entry a) (balanceEntry_le _)

/-- The balance lean is odd (R16). -/
theorem balanceLean_neg (a : Int) : balanceLean (-a) = -balanceLean a := by
  obtain negative | rfl | positive := Int.lt_trichotomy a 0
  · rw [balanceLean, balanceLean, if_neg (by omega), if_pos negative, Int.natAbs_neg, Int.neg_neg]
  · decide
  · rw [balanceLean, balanceLean, if_pos (by omega), if_neg (by omega), Int.natAbs_neg]

theorem balanceLean_mono {a b : Int} (le : a ≤ b) : balanceLean a ≤ balanceLean b := by
  unfold balanceLean
  split <;> split
  · have shrinks := balanceMagnitude_mono (show b.natAbs ≤ a.natAbs by omega)
    omega
  · omega
  · omega
  · have grows := balanceMagnitude_mono (show a.natAbs ≤ b.natAbs by omega)
    omega

theorem natAbs_balanceLean_le (a : Int) : (balanceLean a).natAbs ≤ 4254 := by
  have bound := balanceMagnitude_le a.natAbs
  unfold balanceLean
  split <;> omega

/-- Settles O40: the speed map and the balance table. -/
theorem lawTables : Obligations.LawTables := by
  unfold Obligations.LawTables
  exact ⟨fun m v i ordered low high => mapLookup_of_between i ordered low high,
    fun m v ordered above => mapLookup_of_last ordered above, by decide, balanceLean_neg,
    fun a b _ le _ => balanceLean_mono le, fun a _ => natAbs_balanceLean_le a⟩

/-! ### The parts of a computation (R13 to R23, R67 to R74) -/

/-- A clamp acts exactly on the values outside its range (R2). -/
theorem lt_natAbs_iff (x : Nat) (v : Int) : x < v.natAbs ↔ v < -(x : Int) ∨ (x : Int) < v := by omega

/-- A rounded quotient undoes a multiplication (R2). -/
theorem roundDiv_mul (x : Int) : roundDiv (1024 * x) 1024 = x := by
  unfold roundDiv
  split <;> omega

/-- A share of at most 1024 / 1024 is no larger than the whole (R18). -/
theorem natAbs_roundDiv_share_le {a : Nat} (x : Int) (share : a ≤ 1024) :
    (roundDiv (a * x) 1024).natAbs ≤ x.natAbs := by
  have bound : (a * x : Int).natAbs ≤ 1024 * x.natAbs := by
    rw [Int.natAbs_mul, Int.natAbs_natCast]
    exact Nat.mul_le_mul_right _ share
  unfold roundDiv
  split <;> omega

/-- The moves of a rate-limited target: arrival, a step up, a step down (R19, R72). -/
theorem moveToward_of_near {step : Nat} {a b : Int} (near : (b - a).natAbs ≤ step) : moveToward step a b = (b, false) :=
  if_pos near

theorem moveToward_of_below {step : Nat} {a b : Int} (below : a + step < b) : moveToward step a b = (a + step, true) := by
  rw [moveToward, if_neg (by omega), if_pos (by omega)]

theorem moveToward_of_above {step : Nat} {a b : Int} (above : b < a - step) : moveToward step a b = (a - step, true) := by
  rw [moveToward, if_neg (by omega), if_neg (by omega)]

/-- A target moves by at most its step (R19, R72). -/
theorem natAbs_moveToward_sub_le (step : Nat) (a b : Int) : ((moveToward step a b).1 - a).natAbs ≤ step := by
  unfold moveToward
  split
  · assumption
  · split <;> dsimp only <;> omega

/-- A target that does not arrive comes nearer by exactly its step (R19, R72). -/
theorem moveToward_of_far {step : Nat} {a b : Int} (far : step < (b - a).natAbs) :
    (b - (moveToward step a b).1).natAbs + step = (b - a).natAbs ∧ (moveToward step a b).2 = true := by
  unfold moveToward
  rw [if_neg (by omega)]
  split
  · exact ⟨by dsimp only; omega, rfl⟩
  · exact ⟨by dsimp only; omega, rfl⟩

theorem leanMoves_iff (r : Regime) :
    leanMoves r = true ↔ r = .uprightHold ∨ r = .release ∨ r = .freeLean ∨ r = .capture := by
  cases r <;> decide

theorem steerMoves_iff (r : Regime) (mode : DriveMode) :
    steerMoves r mode = true ↔ isRiding r = true ∨ (r = .safe ∧ mode = .run) := by
  cases r <;> simp [steerMoves, isRiding]

theorem leanTarget_of_moves {r : Regime} (step : Nat) (phiT phiD cEst : Int) (m : Option Int) (moves : leanMoves r = true) :
    leanTarget r step phiT phiD cEst m = moveToward step phiT phiD := if_pos moves

theorem steerTarget_of_moves {r : Regime} {mode : DriveMode} (step limit : Nat) (deltaT deltaD : Int) (m : Option Int)
    (moves : steerMoves r mode = true) : steerTarget r mode step limit deltaT deltaD m = moveToward step deltaT deltaD :=
  if_pos moves

theorem steerTarget_of_tracking {r : Regime} {mode : DriveMode} (step limit : Nat) (deltaT deltaD : Int) (m : Option Int)
    (tracks : ¬ steerMoves r mode = true) : steerTarget r mode step limit deltaT deltaD m = (trackedSteer m limit, false) :=
  if_neg tracks

/-- A clamp about 0 does not enlarge (R18). -/
theorem natAbs_clampTo_le {l v : Int} (nonneg : 0 ≤ l) : (clampTo (-l) l v).natAbs ≤ v.natAbs := by
  unfold clampTo
  omega

/-- The demanded lean stays within the balance table's last entry (R15, R18). -/
theorem natAbs_demandedLean_le {a : Nat} {l phiB : Int} (share : a ≤ 1024) (nonneg : 0 ≤ l) (bound : phiB.natAbs ≤ 4254) :
    (demandedLean a (clampTo (-l) l phiB)).natAbs ≤ 4254 :=
  Nat.le_trans (Nat.le_trans (natAbs_roundDiv_share_le _ share) (natAbs_clampTo_le nonneg)) bound

/-- The demand is the direct steer at α 0 and in SAFE (R70). -/
theorem rawSteerDemand_of_direct {r : Regime} {a : Nat} (lean direct : Int) (upright : a = 0 ∨ r = .safe) :
    rawSteerDemand r a lean direct = direct := by
  unfold rawSteerDemand
  split
  · rfl
  · next other =>
    obtain rfl := upright.resolve_right other
    have whole : ((0 : Nat) : Int) * lean + (1024 - ((0 : Nat) : Int)) * direct = 1024 * direct := by simp
    rw [whole, roundDiv_mul]

/-- At α 0 the demanded lean is 0 (R18). -/
theorem demandedLean_of_upright {a : Nat} (upright : a = 0) (phiF : Int) : demandedLean a phiF = 0 := by
  subst upright
  simp [demandedLean, roundDiv]

theorem effectiveLimit_nonneg (lmax : Int) (capValue tiltLimit : Nat) (cEst : Int) :
    0 ≤ effectiveLimit lmax capValue tiltLimit cEst := Int.le_max_left _ _

theorem effectiveLimit_eq (lmax : Int) (capValue tiltLimit : Nat) (cEst : Int) :
    effectiveLimit lmax capValue tiltLimit cEst =
      max 0 (min ((lmax * capValue).fdiv 1024) ((tiltLimit : Int) - (cEst.natAbs : Int))) := by
  rw [effectiveLimit, Int.fdiv_eq_ediv_of_nonneg _ (by decide)]

/-- Settles O41: the stages of the law and its three targets. -/
theorem lawTargets : Obligations.LawTargets := by
  unfold Obligations.LawTargets
  refine ⟨fun k r low inside => ?_, fun i c phiT deltaT => ?_⟩
  · intro t
    have entry (n : Nat) (small : n ≤ 12) : t n = balanceEntry n := by
      have all : ∀ n : Fin 13, t n = balanceEntry n := by decide
      exact all ⟨n, by omega⟩
    rw [entry k (by omega), entry (k + 1) (by omega), balanceLean, if_neg (by omega), Int.natAbs_natCast,
      balanceMagnitude_segment k inside]
  · intro r p m steps steers leanStep steerStep kappa aRaw phiB lEff phiD deltaDir direct lead deltaLean demand deltaD
    have square : (i.vLaw : Int) ^ 2 = (i.vLaw : Int) * i.vLaw := by rw [Int.pow_succ, Int.pow_succ, Int.pow_zero, Int.one_mul]
    have raw : rawAcceleration i.vLaw kappa = aRaw := by simp only [rawAcceleration, aRaw, square]
    have limit : effectiveLimit m.lmax i.cap p.tiltLimit i.cEst = lEff := effectiveLimit_eq _ _ _ _
    have leads : steerLead m.kcs r.phiT i.cEst i.lambdaM = lead := by
      simp only [lead]
      cases i.lambdaM <;> rfl
    have nonneg : 0 ≤ lEff := limit ▸ effectiveLimit_nonneg _ _ _ _
    have lean : (r.phiT, r.flags.rate) = leanTarget i.regime leanStep phiT phiD i.cEst i.lambdaM := by
      show leanTarget i.regime leanStep phiT
        (demandedLean i.alpha (clampTo (-(effectiveLimit m.lmax i.cap p.tiltLimit i.cEst))
          (effectiveLimit m.lmax i.cap p.tiltLimit i.cEst)
          (balanceLean (clampSym p.aMax (rawAcceleration i.vLaw kappa))))) i.cEst i.lambdaM = _
      rw [raw, limit]
      rfl
    have demanded : rawSteerDemand i.regime i.alpha
        (kinematicSteer kappa p.wheelbase - steerLead m.kcs r.phiT i.cEst i.lambdaM)
        (directSteer i.bar.b p.steerRatioLow) = demand := by
      rw [leads]
      rfl
    have steer : (r.deltaT, r.steerFlags.rate) =
        steerTarget i.regime i.steerMode steerStep p.steerLimit deltaT deltaD i.deltaM := by
      rw [show deltaD = clampSym p.steerLimit demand from rfl, ← demanded]
      rfl
    have leanMoved (moves : steps) : (r.phiT, r.flags.rate) = moveToward leanStep phiT phiD :=
      lean.trans (leanTarget_of_moves _ _ _ _ _ ((leanMoves_iff _).mpr moves))
    have steerMoved (moves : steers) : (r.deltaT, r.steerFlags.rate) = moveToward steerStep deltaT deltaD :=
      steer.trans (steerTarget_of_moves _ _ _ _ _ ((steerMoves_iff _ _).mpr moves))
    have straight (upright : i.alpha = 0 ∨ i.regime = .safe) : deltaD = direct := by
      rw [show deltaD = clampSym p.steerLimit demand from rfl, ← demanded, rawSteerDemand_of_direct _ _ upright]
      rfl
    have phiMoved (moves : steps) : r.phiT = (moveToward leanStep phiT phiD).1 := congrArg Prod.fst (leanMoved moves)
    have deltaMoved (moves : steers) : r.deltaT = (moveToward steerStep deltaT deltaD).1 :=
      congrArg Prod.fst (steerMoved moves)
    have phiStays {v : Int} {flag : Bool} (is : leanTarget i.regime leanStep phiT phiD i.cEst i.lambdaM = (v, flag)) :
        r.phiT = v ∧ r.flags.rate = flag := Prod.mk.inj (lean.trans is)
    refine ⟨rfl, rfl, ?_, ?_, ?_, rfl, natAbs_clampSym_le _ _, fun moves => ⟨fun near => ?_, fun below => ?_, fun above => ?_⟩,
      fun moves => ?_, fun moves upright => ⟨fun near => ?_, fun far => ?_⟩, fun moves share bound => ?_, fun frozen => ?_,
      fun parked => ?_, fun moves => ⟨fun near => ?_, fun below => ?_, fun above => ?_⟩, fun moves => ?_,
      fun moves bound => ?_, fun moves upright => ⟨fun near => ?_, fun far => ?_⟩, fun tracks => ?_⟩
    · rw [← lt_natAbs_iff, ← raw]
      exact decide_eq_true_iff
    · rw [← limit, show phiB = balanceLean (clampSym p.aMax aRaw) from rfl, ← raw]
      exact decide_eq_true_iff
    · rw [← lt_natAbs_iff, ← demanded]
      exact decide_eq_true_iff
    · exact Prod.mk.inj ((leanMoved moves).trans (moveToward_of_near near))
    · exact Prod.mk.inj ((leanMoved moves).trans (moveToward_of_below below))
    · exact Prod.mk.inj ((leanMoved moves).trans (moveToward_of_above above))
    · rw [phiMoved moves]
      exact natAbs_moveToward_sub_le _ _ _
    · have moved := leanMoved moves
      rw [show phiD = 0 from demandedLean_of_upright upright _] at moved
      exact Prod.mk.inj (moved.trans (moveToward_of_near (by omega)))
    · have moved := leanMoved moves
      rw [show phiD = 0 from demandedLean_of_upright upright _] at moved
      have phi : r.phiT = (moveToward leanStep phiT 0).1 := congrArg Prod.fst moved
      have rate : r.flags.rate = (moveToward leanStep phiT 0).2 := congrArg Prod.snd moved
      have nears := moveToward_of_far (step := leanStep) (a := phiT) (b := 0) (by omega)
      rw [← phi, ← rate] at nears
      exact ⟨by omega, nears.2⟩
    · rw [phiMoved moves]
      exact natAbs_moveToward_le bound (natAbs_demandedLean_le share nonneg (natAbs_balanceLean_le _))
    · refine phiStays ?_
      obtain regime | regime | regime | regime := frozen <;> simp [leanTarget, leanMoves, regime]
    · refine phiStays ?_
      simp [leanTarget, leanMoves, parked]
    · exact Prod.mk.inj ((steerMoved moves).trans (moveToward_of_near near))
    · exact Prod.mk.inj ((steerMoved moves).trans (moveToward_of_below below))
    · exact Prod.mk.inj ((steerMoved moves).trans (moveToward_of_above above))
    · rw [deltaMoved moves]
      exact natAbs_moveToward_sub_le _ _ _
    · rw [deltaMoved moves]
      exact natAbs_moveToward_le bound (natAbs_clampSym_le _ _)
    · have moved := steerMoved moves
      rw [straight upright] at moved
      exact Prod.mk.inj (moved.trans (moveToward_of_near near))
    · have moved := steerMoved moves
      rw [straight upright] at moved
      have delta : r.deltaT = (moveToward steerStep deltaT direct).1 := congrArg Prod.fst moved
      have rate : r.steerFlags.rate = (moveToward steerStep deltaT direct).2 := congrArg Prod.snd moved
      rw [delta, rate]
      exact moveToward_of_far far
    · exact Prod.mk.inj (steer.trans (steerTarget_of_tracking _ _ _ _ _ fun moves => tracks ((steerMoves_iff _ _).mp moves)))

end Sys2Proof.Machine
end

section
/-! Homing and the completions of the brake: a drive command beside other writes, the creep phase, the creep timeout, and the
states BRAKE_RELEASED, BRAKE_ENGAGED and CREEP_TIMER_EXPIRY leave (R39, R51 to R58, R97, R157). -/

namespace Sys2Proof.Machine

variable (s : State)

/-! ### A drive command beside other writes (R146, R147, R154) -/

/-- The record of a drive after a command, in FAULT too (R146). -/
def afterCommand (d : DriveId) (cmd : DriveCommand) (s : State) : Drive :=
  if (getDrive s d).mode = .fault then getDrive s d else commandedRecord d cmd s

/-- What a command tells: the end of a saturation, when the mode is left (R146, R154). -/
def commandTold (d : DriveId) (cmd : DriveCommand) (s : State) : State :=
  if (getDrive s d).mode = commandedMode cmd then s else leavingTold d s

theorem commandTold_of_mode {d : DriveId} {cmd : DriveCommand} (stays : (getDrive s d).mode = commandedMode cmd) :
    commandTold d cmd s = s := if_pos stays

theorem commandTold_of_leaving {d : DriveId} {cmd : DriveCommand} (leaves : (getDrive s d).mode ≠ commandedMode cmd) :
    commandTold d cmd s = leavingTold d s := if_neg leaves

/-- A drive that creeps or rests has no saturation to end (R154). -/
theorem leavingTold_of_creep (d : DriveId) (creep : (getDrive s d).mode = .creep) : leavingTold d s = s := by
  simp [leavingTold, endsSaturation, creep]

theorem commandedRecord_saturated_of_mode {d : DriveId} {cmd : DriveCommand}
    (stays : (getDrive s d).mode = commandedMode cmd) :
    (commandedRecord d cmd s).saturated = (getDrive s d).saturated := by
  cases cmd <;> simp_all [commandedRecord, commandedMode, offRecord]

theorem commandedRecord_saturated_of_leaving {d : DriveId} {cmd : DriveCommand} (able : (getDrive s d).mode ≠ .fault)
    (leaves : (getDrive s d).mode ≠ commandedMode cmd) :
    (commandedRecord d cmd s).saturated = (leftRecord (getDrive s d)).saturated := by
  cases cmd <;> simp_all [commandedRecord, commandedMode, offRecord, bridgeOff]

/-- The record of a command tells of the saturation it ends. -/
theorem tellSaturated_commandedRecord (d : DriveId) (cmd : DriveCommand) (able : (getDrive s d).mode ≠ .fault) :
    tellSaturated d (commandedRecord d cmd s).saturated s = commandTold d cmd s := by
  by_cases stays : (getDrive s d).mode = commandedMode cmd
  · rw [commandTold_of_mode s stays, commandedRecord_saturated_of_mode s stays]
    exact if_pos rfl
  · rw [commandTold_of_leaving s stays, commandedRecord_saturated_of_leaving s able stays, leavingTold_eq]

theorem commandDrive_eq_told (d : DriveId) (cmd : DriveCommand) :
    commandDrive d cmd s = setDrive d (afterCommand d cmd s) (commandTold d cmd s) := by
  unfold afterCommand
  by_cases fault : (getDrive s d).mode = .fault
  · have leaves : (getDrive s d).mode ≠ commandedMode cmd := by
      rw [fault]
      cases cmd <;> simp [commandedMode]
    rw [commandDrive_of_fault s d cmd fault, if_pos fault, commandTold_of_leaving s leaves,
      leavingTold_of_resting s d (.inr fault), setDrive_getDrive]
  · rw [commandDrive_eq s d cmd fault, if_neg fault, putDrive, tellSaturated_commandedRecord s d cmd fault]

theorem getDrive_beside (u t : State) (d : DriveId) : getDrive (beside u t) d = getDrive u d := by cases d <;> rfl

theorem setDrive_beside (d : DriveId) (r : Drive) (u t : State) :
    setDrive d r (beside u t) = beside (setDrive d r u) t := by cases d <;> rfl

theorem afterCommand_beside (d : DriveId) (cmd : DriveCommand) (u t : State) :
    afterCommand d cmd (beside u t) = afterCommand d cmd u := by
  cases cmd <;> cases d <;> rfl

/-- What a command tells beside other writes depends on the mode and the saturation of the drive alone. -/
theorem commandTold_beside (d : DriveId) (cmd : DriveCommand) {u : State} (time : now u = now s)
    (mode : (getDrive u d).mode = (getDrive s d).mode) (saturated : (getDrive u d).saturated = (getDrive s d).saturated) :
    commandTold d cmd (beside u s) = beside u (commandTold d cmd s) := by
  have ends : endsSaturation (getDrive u d) = endsSaturation (getDrive s d) := by
    rw [endsSaturation, mode, saturated]
    rfl
  unfold commandTold
  rw [getDrive_beside, mode]
  split
  · rfl
  · exact leavingTold_beside s d time ends

/-- A command beside other writes writes its record there, and tells beside them. -/
theorem commandDrive_beside (d : DriveId) (cmd : DriveCommand) {u : State} (time : now u = now s)
    (mode : (getDrive u d).mode = (getDrive s d).mode) (saturated : (getDrive u d).saturated = (getDrive s d).saturated) :
    commandDrive d cmd (beside u s) = beside (setDrive d (afterCommand d cmd u) u) (commandTold d cmd s) := by
  rw [commandDrive_eq_told, afterCommand_beside, commandTold_beside s d cmd time mode saturated, setDrive_beside]

theorem afterCommand_off (d : DriveId) : afterCommand d .off s = offRecord (getDrive s d) := by
  unfold afterCommand
  split
  · next fault => exact (offRecord_of_resting (.inr fault)).symm
  · rfl

theorem commandTold_off (d : DriveId) : commandTold d .off s = leavingTold d s := by
  unfold commandTold
  split
  · next off => exact (leavingTold_of_resting s d (.inl off)).symm
  · rfl

/-! ### The check of the creep phase (R55) -/

/-- In phase CREEP with neither TILT nor STEER seeking the creep phase is over (R55). -/
def creepOver (s : State) : Prop :=
  s.regime.phase = some .creep ∧ s.channels.tilt.state ≠ .seeking ∧ s.channels.steer.state ≠ .seeking

theorem homingCheck_of_done (done : creepOver s) :
    homingCheck s = putControl { s.regime with phase := some .engaging } (engageBrake s) s := by
  have checked : homingCheck s = setPhase (some .engaging) (commandEngage s) := if_pos done
  rw [checked, commandEngage_eq]
  rfl

theorem homingCheck_of_not_done (on : ¬ creepOver s) : homingCheck s = s := if_neg on

/-- A check made once is not made again (R55). -/
theorem homingCheck_homingCheck : homingCheck (homingCheck s) = homingCheck s := by
  by_cases done : creepOver s
  · rw [homingCheck_of_done s done]
    exact homingCheck_of_not_done _ fun again => by simp [creepOver] at again
  · rw [homingCheck_of_not_done s done, homingCheck_of_not_done s done]

/-- The check may be made before or after a step that keeps regime record, brake, levels, time and channels. -/
theorem homingCheck_comm {f : State → State} (moved : ∀ r b, f (putControl r b s) = putControl r b (f s))
    (regime : (f s).regime = s.regime) (channels : (f s).channels = s.channels)
    (engaged : engageBrake (f s) = engageBrake s) : homingCheck (f (homingCheck s)) = homingCheck (f s) := by
  by_cases done : creepOver s
  · have later : creepOver (f s) := by
      unfold creepOver
      rw [regime, channels]
      exact done
    rw [homingCheck_of_done s done, moved, homingCheck_of_done _ later, regime, engaged]
    exact homingCheck_of_not_done _ fun again => by simp [creepOver] at again
  · rw [homingCheck_of_not_done s done]

theorem engageBrake_commandDrive (d : DriveId) (cmd : DriveCommand) : engageBrake (commandDrive d cmd s) = engageBrake s := by
  simp [engageBrake, now]

theorem homingCheck_commandDrive (d : DriveId) (cmd : DriveCommand) :
    homingCheck (commandDrive d cmd (homingCheck s)) = homingCheck (commandDrive d cmd s) :=
  homingCheck_comm s (fun r b => commandDrive_putControl s d cmd r b) (by simp) (by simp) (engageBrake_commandDrive s d cmd)

/-! ### A homing timeout (R54, R97) -/

/-- The record of a channel in FAULT (R96). -/
def faultedChannel (c : Channel) : Channel := { c with state := .fault, suspectStart := none }

/-- The notice of a homing timeout (R35, R97). -/
def homingTimeoutNotice (c : ChannelId) (s : State) : FaultNotice := ⟨.channel c, .homingTimeout, 0, .homing, msOf (now s)⟩

/-- The channel as a homing timeout leaves it, with its notice (R35, R97). -/
def noteTimeout (c : ChannelId) (s : State) : State :=
  if (getChannel s c).state = .seeking then
    postFaultNotice (homingTimeoutNotice c s) (setChannel c (faultedChannel (getChannel s c)) s)
  else s

/-- A homing timeout of a seeking shaft faults its channel, commands its drive OFF and checks the creep phase (R54, R97). -/
theorem homingTimeout_of_homing (d : DriveId) (homing : s.regime.regime = .homing)
    (seeking : (getChannel s (driveChannel d)).state = .seeking) :
    homingTimeout (driveChannel d) s = homingCheck (commandDrive d .off (noteTimeout (driveChannel d) s)) := by
  have regime : (setChannel (driveChannel d) (faultedChannel (getChannel s (driveChannel d))) s).regime.regime = .homing := by
    cases d <;> exact homing
  have time : now (setChannel (driveChannel d) (faultedChannel (getChannel s (driveChannel d))) s) = now s := by
    cases d <;> rfl
  have reported := faultReport_eq (setChannel (driveChannel d) (faultedChannel (getChannel s (driveChannel d))) s)
    (.channel (driveChannel d)) .homingTimeout 0 (r := .homing) (by rw [regime]; rfl)
  rw [time] at reported
  rw [homingTimeout, if_pos seeking, noteTimeout, if_pos seeking]
  refine reported.trans ((actOnFault_channel_homing _ (driveChannel d) ?_).trans ?_)
  · cases d <;> exact homing
  · cases d <;> rfl

theorem homingTimeout_of_not_seeking (c : ChannelId) (still : (getChannel s c).state ≠ .seeking) :
    homingTimeout c s = s := if_neg still

theorem noteTimeout_of_not_seeking (c : ChannelId) (still : (getChannel s c).state ≠ .seeking) :
    noteTimeout c s = s := if_neg still

/-- What a homing timeout tells: its notice, when the channel seeks (R35, R97). -/
def timeoutTold (c : ChannelId) (s : State) : State :=
  if (getChannel s c).state = .seeking then postFaultNotice (homingTimeoutNotice c s) s else s

/-- The channel record a homing timeout leaves (R97). -/
def timedOutChannel (c : Channel) : Channel := if c.state = .seeking then faultedChannel c else c

theorem noteTimeout_beside (c : ChannelId) {u : State} (time : now u = now s) (same : getChannel u c = getChannel s c) :
    noteTimeout c (beside u s) = beside (setChannel c (timedOutChannel (getChannel u c)) u) (timeoutTold c s) := by
  have channel : getChannel (beside u s) c = getChannel u c := by cases c <;> rfl
  have notice : homingTimeoutNotice c (beside u s) = homingTimeoutNotice c s := by
    rw [homingTimeoutNotice, show now (beside u s) = now s from time]
    rfl
  unfold noteTimeout timeoutTold timedOutChannel
  rw [channel, notice, same]
  split
  · cases c <;> rfl
  · rw [← same]
    cases c <;> rfl

theorem timeoutTold_eq_beside (c : ChannelId) : timeoutTold c s = beside s (timeoutTold c s) := by
  unfold timeoutTold
  split <;> rfl

@[simp] theorem getDrive_timeoutTold (c : ChannelId) (d : DriveId) : getDrive (timeoutTold c s) d = getDrive s d := by
  rw [timeoutTold_eq_beside, getDrive_beside]

/-! ### The creep timeout (R54, R157) -/

/-- A creep timeout in HOMING: the channel times out, its drive is commanded OFF, and the creep phase is checked (R54). -/
theorem creepTimeoutTaken_of_homing (d : DriveId) (homing : s.regime.regime = .homing) :
    creepTimeoutTaken d s = homingCheck (commandDrive d .off (noteTimeout (driveChannel d) s)) := by
  have taken : creepTimeoutTaken d s = homingCheck (commandDrive d .off (homingTimeout (driveChannel d) s)) := by
    rw [creepTimeoutTaken, homing]
  rw [taken]
  by_cases seeking : (getChannel s (driveChannel d)).state = .seeking
  · have rests := commandDrive_mode d .off (noteTimeout (driveChannel d) s)
    rw [homingTimeout_of_homing s d homing seeking, homingCheck_commandDrive]
    refine congrArg homingCheck (commandOff_of_resting _ d ?_)
    rw [rests]
    split
    · exact .inr rfl
    · exact .inl rfl
  · rw [homingTimeout_of_not_seeking s _ seeking, noteTimeout_of_not_seeking s _ seeking]

theorem creepTimeoutTaken_of_elsewhere (d : DriveId) (other : s.regime.regime ≠ .homing) : creepTimeoutTaken d s = s := by
  unfold creepTimeoutTaken
  split
  · contradiction
  · rfl

/-- A state that differs in its counters and its link alone takes the other writes beside them. -/
theorem with_eq_beside {t : State} (framed : t = beside s t) (r : RegimeControl) (c : Channels) (d : DriveUnit) (p : Pins) :
    { t with pins := p, regime := r, channels := c, drives := d } =
      beside { s with pins := p, regime := r, channels := c, drives := d } t := by
  conv => lhs; rw [framed]
  rfl

/-- The check of the creep phase reads and writes nothing of the counters and the link (R55). -/
theorem homingCheck_beside (u t : State) : homingCheck (beside u t) = beside (homingCheck u) t := by
  by_cases done : creepOver u
  · have same : creepOver (beside u t) := done
    rw [homingCheck_of_done _ same, homingCheck_of_done u done]
    rfl
  · have same : ¬ creepOver (beside u t) := done
    rw [homingCheck_of_not_done _ same, homingCheck_of_not_done u done]

/-- A drive record with the creep timer stopped (R157). -/
def stoppedDrive (r : Drive) : Drive := { r with creepTimer := none }

/-- The blocks as a creep timeout in HOMING leaves them before the check of the creep phase (R54, R97, R148). -/
def creepTimedOut (d : DriveId) (s : State) : State :=
  setDrive d (offRecord (stoppedDrive (getDrive s d)))
    (setChannel (driveChannel d) (timedOutChannel (getChannel s (driveChannel d))) s)

/-- What a creep timeout in HOMING tells (R35, R154). -/
def creepTimeoutTold (d : DriveId) (s : State) : State := leavingTold d (timeoutTold (driveChannel d) s)

theorem creepTimeoutTold_eq_beside (d : DriveId) : creepTimeoutTold d s = beside s (creepTimeoutTold d s) := by
  unfold creepTimeoutTold
  rw [leavingTold_eq_beside, timeoutTold_eq_beside]
  rfl

theorem creepTimeoutTaken_stopped (d : DriveId) (homing : s.regime.regime = .homing) :
    creepTimeoutTaken d (setDrive d (stoppedDrive (getDrive s d)) s) =
      beside (homingCheck (creepTimedOut d s)) (creepTimeoutTold d s) := by
  have stopped : setDrive d (stoppedDrive (getDrive s d)) s = beside (setDrive d (stoppedDrive (getDrive s d)) s) s := by
    cases d <;> rfl
  have noted : noteTimeout (driveChannel d) (setDrive d (stoppedDrive (getDrive s d)) s) =
      beside (setChannel (driveChannel d) (timedOutChannel (getChannel s (driveChannel d)))
        (setDrive d (stoppedDrive (getDrive s d)) s)) (timeoutTold (driveChannel d) s) := by
    conv => lhs; rw [stopped]
    have same : getChannel (setDrive d (stoppedDrive (getDrive s d)) s) (driveChannel d) = getChannel s (driveChannel d) := by
      cases d <;> rfl
    rw [noteTimeout_beside s (driveChannel d) (by cases d <;> rfl) same, same]
  have record : getDrive (setChannel (driveChannel d) (timedOutChannel (getChannel s (driveChannel d)))
      (setDrive d (stoppedDrive (getDrive s d)) s)) d = stoppedDrive (getDrive s d) := by
    cases d <;> rfl
  have commanded := commandDrive_beside (timeoutTold (driveChannel d) s) d .off
    (u := setChannel (driveChannel d) (timedOutChannel (getChannel s (driveChannel d)))
      (setDrive d (stoppedDrive (getDrive s d)) s))
    (by rw [timeoutTold_eq_beside]; cases d <;> rfl) (by rw [record, getDrive_timeoutTold]; rfl)
    (by rw [record, getDrive_timeoutTold]; rfl)
  rw [afterCommand_off, commandTold_off, record] at commanded
  rw [creepTimeoutTaken_of_homing _ d (by cases d <;> exact homing), noted, commanded, homingCheck_beside]
  cases d <;> rfl

/-- A channel that has timed out seeks no more (R97). -/
theorem timedOutChannel_state (c : Channel) : (timedOutChannel c).state ≠ .seeking := by
  unfold timedOutChannel
  split
  · simp [faultedChannel]
  · assumption

theorem engageBrake_creepTimedOut (d : DriveId) : engageBrake (creepTimedOut d s) = engageBrake s := by cases d <;> rfl

/-- The creep phase is over after a creep timeout when the other shaft does not seek (R55). -/
theorem creepOver_creepTimedOut (d : DriveId) :
    creepOver (creepTimedOut d s) ↔
      s.regime.phase = some .creep ∧ (getChannel s (if d = .tilt then .steer else .tilt)).state ≠ .seeking := by
  cases d with
  | tilt =>
    exact ⟨fun h => ⟨h.1, h.2.2⟩, fun h => ⟨h.1, timedOutChannel_state _, h.2⟩⟩
  | steer =>
    exact ⟨fun h => ⟨h.1, h.2.1⟩, fun h => ⟨h.1, h.2, timedOutChannel_state _⟩⟩

/-- The check of the creep phase after a creep timeout (R55, R163). -/
theorem homingCheck_creepTimedOut (d : DriveId) :
    homingCheck (creepTimedOut d s) =
      if s.regime.phase = some .creep ∧ (getChannel s (if d = .tilt then .steer else .tilt)).state ≠ .seeking then
        putControl { s.regime with phase := some .engaging } (engageBrake s) (creepTimedOut d s)
      else creepTimedOut d s := by
  by_cases done : creepOver (creepTimedOut d s)
  · rw [homingCheck_of_done _ done, if_pos ((creepOver_creepTimedOut s d).mp done), engageBrake_creepTimedOut]
    cases d <;> rfl
  · rw [homingCheck_of_not_done _ done, if_neg (done ∘ (creepOver_creepTimedOut s d).mpr)]

/-- Settles O43: the creep timeout. -/
theorem creepTimeout : Obligations.CreepTimeout := by
  unfold Obligations.CreepTimeout
  intro d s expired ch other stopped told engages
  have due : creepDue s d = true := decide_eq_true expired
  simp only [exec_creepTimerExpiry, execCreepTimerExpiry]
  rw [if_pos due]
  refine ⟨fun elsewhere => ?_, fun homing => ?_⟩
  · exact congrArg _ (creepTimeoutTaken_of_elsewhere _ d (by cases d <;> exact elsewhere))
  · refine congrArg _ ((creepTimeoutTaken_stopped s d homing).trans ?_)
    have framed : told = beside s told := creepTimeoutTold_eq_beside s d
    rw [homingCheck_creepTimedOut]
    change beside (if engages then _ else _) told = _
    have brake : (commandEngage s).drives.brake = engageBrake s := by rw [commandEngage_eq]; rfl
    generalize told = t at framed ⊢
    conv => rhs; rw [framed]
    by_cases over_ : engages
    · rw [if_pos over_, if_pos over_, if_pos over_, brake]
      cases d <;> rfl
    · rw [if_neg over_, if_neg over_, if_neg over_]
      cases d <;> rfl

end Sys2Proof.Machine
end

section
/-! The completions of the brake: BRAKE_RELEASED in UNLOCKING and in HOMING, where the creep phase begins, and BRAKE_ENGAGED in
LOCKING, HOMING and SAFE (R39, R51, R53 to R55, R58). -/

namespace Sys2Proof.Machine

variable (s : State)

/-! ### The creep phase begins (R53) -/

/-- A homing timeout as the creep phase begins: the channel seeks and its drive is in FAULT (R53, R97). -/
def startFaults (d : DriveId) (s : State) : Bool :=
  (getChannel s (driveChannel d)).state == .seeking && (getDrive s d).mode == .fault

theorem startFaults_iff (d : DriveId) :
    startFaults d s = true ↔ (getChannel s (driveChannel d)).state = .seeking ∧ (getDrive s d).mode = .fault := by
  simp [startFaults]

/-- The command to one drive as the creep phase begins, before the check of the phase (R53). -/
def quietStart (d : DriveId) (s : State) : State :=
  if startFaults d s then noteTimeout (driveChannel d) s
  else match (getChannel s (driveChannel d)).state with
    | .seeking => commandDrive d .creep s
    | .homed | .suspect => commandDrive d (.hold 0) s
    | .fault => commandDrive d .off s
    | .unhomed => s

theorem creepStart_of_faults (d : DriveId) (homing : s.regime.regime = .homing) (faults : startFaults d s = true) :
    creepStart d s = homingCheck (quietStart d s) := by
  obtain ⟨seeking, fault⟩ := (startFaults_iff s d).mp faults
  have noted : quietStart d s = noteTimeout (driveChannel d) s := if_pos faults
  have still : (getDrive (noteTimeout (driveChannel d) s) d).mode = .fault := by
    rw [noteTimeout, if_pos seeking]
    cases d <;> exact fault
  unfold creepStart
  rw [seeking]
  dsimp only
  rw [if_pos fault, homingTimeout_of_homing s d homing seeking, commandDrive_of_fault _ d .off still, noted]

theorem quietStart_of_able {d : DriveId} (able : startFaults d s = false) :
    quietStart d s =
      match (getChannel s (driveChannel d)).state with
      | .seeking => commandDrive d .creep s
      | .homed | .suspect => commandDrive d (.hold 0) s
      | .fault => commandDrive d .off s
      | .unhomed => s := if_neg (by rw [able]; exact Bool.false_ne_true)

theorem creepStart_of_not_faults (d : DriveId) (able : startFaults d s = false) : creepStart d s = quietStart d s := by
  rw [quietStart_of_able s able, creepStart]
  cases state : (getChannel s (driveChannel d)).state with
  | seeking =>
    have drive : (getDrive s d).mode ≠ .fault := fun fault => by
      have faults := (startFaults_iff s d).mpr ⟨state, fault⟩
      rw [able] at faults
      contradiction
    exact if_neg drive
  | homed | suspect | fault | unhomed => rfl

/-- The check after a start is the check after the quiet start (R55). -/
theorem homingCheck_creepStart (d : DriveId) (homing : s.regime.regime = .homing) :
    homingCheck (creepStart d s) = homingCheck (quietStart d s) := by
  cases faults : startFaults d s with
  | true => rw [creepStart_of_faults s d homing faults, homingCheck_homingCheck]
  | false => rw [creepStart_of_not_faults s d faults]

theorem noteTimeout_regime (c : ChannelId) : (noteTimeout c s).regime = s.regime := by
  unfold noteTimeout
  split
  · cases c <;> rfl
  · rfl

theorem quietStart_regime (d : DriveId) : (quietStart d s).regime = s.regime := by
  unfold quietStart
  split
  · exact noteTimeout_regime s _
  · split <;> simp

/-- A shaft that does not seek is commanded alone: its start commutes with the end of the creep phase. -/
theorem homingCheck_quietStart (d : DriveId) (rests : (getChannel s (driveChannel d)).state ≠ .seeking) :
    homingCheck (quietStart d (homingCheck s)) = homingCheck (quietStart d s) := by
  have able (r : RegimeControl) (b : Brake) : startFaults d (putControl r b s) = false := by
    refine Bool.eq_false_iff.mpr fun faults => rests ?_
    have seeking := ((startFaults_iff _ d).mp faults).1
    cases d <;> exact seeking
  have ableHere : startFaults d s = false := able s.regime s.drives.brake
  refine homingCheck_comm s (f := quietStart d) (fun r b => ?_) (quietStart_regime s d) ?_ ?_
  · have channel : getChannel (putControl r b s) (driveChannel d) = getChannel s (driveChannel d) := by cases d <;> rfl
    rw [quietStart_of_able _ (able r b), quietStart_of_able s ableHere, channel]
    split
    · exact commandDrive_putControl s d _ r b
    · exact commandDrive_putControl s d _ r b
    · exact commandDrive_putControl s d _ r b
    · exact commandDrive_putControl s d _ r b
    · rfl
  · rw [quietStart_of_able s ableHere]
    split <;> simp
  · rw [quietStart_of_able s ableHere]
    split
    · exact engageBrake_commandDrive s d _
    · exact engageBrake_commandDrive s d _
    · exact engageBrake_commandDrive s d _
    · exact engageBrake_commandDrive s d _
    · rfl

/-- Both starts with one check at the end (R53, R55). -/
theorem homingCheck_creepStarts (homing : s.regime.regime = .homing) :
    homingCheck (creepStart .steer (creepStart .tilt s)) = homingCheck (quietStart .steer (quietStart .tilt s)) := by
  have regime : (quietStart .tilt s).regime.regime = .homing := by rw [quietStart_regime]; exact homing
  cases faults : startFaults .tilt s with
  | false =>
    rw [creepStart_of_not_faults s .tilt faults, homingCheck_creepStart _ .steer regime]
  | true =>
    have checked : (homingCheck (quietStart .tilt s)).regime.regime = .homing := by
      by_cases done : creepOver (quietStart .tilt s)
      · rw [homingCheck_of_done _ done]
        exact regime
      · rw [homingCheck_of_not_done _ done]
        exact regime
    rw [creepStart_of_faults s .tilt homing faults, homingCheck_creepStart _ .steer checked]
    by_cases seeking : (getChannel (quietStart .tilt s) .steer).state = .seeking
    · rw [homingCheck_of_not_done _ fun done => done.2.2 seeking]
    · exact homingCheck_quietStart _ .steer seeking

/-! ### One start beside the counters and the link (R53) -/

/-- The record of a drive as the creep phase begins (R53). -/
def startedDrive (d : DriveId) (s : State) : Drive :=
  match (getChannel s (driveChannel d)).state with
  | .seeking => afterCommand d .creep s
  | .homed | .suspect => afterCommand d (.hold 0) s
  | .fault => afterCommand d .off s
  | .unhomed => getDrive s d

/-- The record of a channel as the creep phase begins (R53, R97). -/
def startedChannel (d : DriveId) (s : State) : Channel :=
  if startFaults d s then faultedChannel (getChannel s (driveChannel d)) else getChannel s (driveChannel d)

/-- Channel and drive as the creep phase begins (R53). -/
def startedBlocks (d : DriveId) (s : State) : State :=
  setChannel (driveChannel d) (startedChannel d s) (setDrive d (startedDrive d s) s)

/-- What the start of one shaft tells (R35, R154). -/
def startTold (d : DriveId) (s : State) : State :=
  if startFaults d s then postFaultNotice (homingTimeoutNotice (driveChannel d) s) s
  else match (getChannel s (driveChannel d)).state with
    | .seeking => leavingTold d s
    | .homed | .suspect => if (getDrive s d).mode = .hold then s else leavingTold d s
    | .fault => leavingTold d s
    | .unhomed => s

theorem startTold_eq_beside (d : DriveId) : startTold d s = beside s (startTold d s) := by
  unfold startTold
  split
  · rfl
  · split
    · exact leavingTold_eq_beside d s
    · split
      · rfl
      · exact leavingTold_eq_beside d s
    · split
      · rfl
      · exact leavingTold_eq_beside d s
    · exact leavingTold_eq_beside d s
    · rfl

theorem commandTold_creep (d : DriveId) : commandTold d .creep s = leavingTold d s := by
  unfold commandTold
  split
  · next creep => exact (leavingTold_of_creep s d creep).symm
  · rfl

/-- The start of one shaft writes its records, and tells beside them (R53). -/
theorem quietStart_beside (d : DriveId) {u : State} (time : now u = now s) (drive : getDrive u d = getDrive s d)
    (channel : getChannel u (driveChannel d) = getChannel s (driveChannel d)) :
    quietStart d (beside u s) = beside (startedBlocks d u) (startTold d s) := by
  have faultsSame : startFaults d (beside u s) = startFaults d u := by cases d <;> rfl
  have faultsThere : startFaults d u = startFaults d s := by rw [startFaults, channel, drive]; rfl
  have channelSame : getChannel (beside u s) (driveChannel d) = getChannel u (driveChannel d) := by cases d <;> rfl
  have commanded (cmd : DriveCommand) : commandDrive d cmd (beside u s) =
      beside (setDrive d (afterCommand d cmd u) u) (commandTold d cmd s) :=
    commandDrive_beside s d cmd time (congrArg Drive.mode drive) (congrArg Drive.saturated drive)
  unfold quietStart startedBlocks startedChannel startedDrive startTold
  rw [faultsSame, channelSame, ← faultsThere, ← channel]
  cases faults : startFaults d u with
  | true =>
    obtain ⟨seeking, fault⟩ := (startFaults_iff u d).mp faults
    have record : afterCommand d .creep u = getDrive u d := if_pos fault
    have timed : timedOutChannel (getChannel u (driveChannel d)) = faultedChannel (getChannel u (driveChannel d)) :=
      if_pos seeking
    have told : timeoutTold (driveChannel d) s = postFaultNotice (homingTimeoutNotice (driveChannel d) s) s :=
      if_pos (channel ▸ seeking)
    rw [if_pos rfl, if_pos rfl, if_pos rfl, noteTimeout_beside s _ time channel, timed, told, seeking]
    dsimp only
    rw [record, setDrive_getDrive]
  | false =>
    have whole (r : Drive) : setChannel (driveChannel d) (getChannel u (driveChannel d)) (setDrive d r u) = setDrive d r u := by
      cases d <;> rfl
    rw [if_neg Bool.false_ne_true, if_neg Bool.false_ne_true, if_neg Bool.false_ne_true, whole]
    cases (getChannel u (driveChannel d)).state with
    | seeking => exact (commanded .creep).trans (by rw [commandTold_creep])
    | homed | suspect => exact commanded (.hold 0)
    | fault => exact (commanded .off).trans (by rw [commandTold_off])
    | unhomed => dsimp only; rw [setDrive_getDrive]

/-! ### BRAKE_RELEASED in HOMING (R53) -/

/-- The state with the side switches sampled and phase CREEP begun (R53). -/
def creepBegun (tside sside : Bool) (s : State) : State := setPhase (some .creep) (sampleSides tside sside s)

/-- The blocks as the creep phase begins, before its check (R53). -/
def creepBlocks (tside sside : Bool) (s : State) : State :=
  startedBlocks .steer (startedBlocks .tilt (creepBegun tside sside s))

/-- What the beginning of the creep phase tells (R35, R154). -/
def creepTold (s : State) : State := startTold .steer (startTold .tilt s)

theorem creepTold_eq_beside : creepTold s = beside s (creepTold s) := by
  unfold creepTold
  rw [startTold_eq_beside _ .steer, startTold_eq_beside _ .tilt]
  rfl

theorem brakeReleasedStep_of_homing (tside sside : Bool) (homing : s.regime.regime = .homing) :
    brakeReleasedStep (sampleSides tside sside s) = beside (homingCheck (creepBlocks tside sside s)) (creepTold s) := by
  have step : brakeReleasedStep (sampleSides tside sside s) =
      homingCheck (creepStart .steer (creepStart .tilt (creepBegun tside sside s))) := by
    rw [brakeReleasedStep, show (sampleSides tside sside s).regime.regime = .homing from homing]
    rfl
  have tilt : quietStart .tilt (creepBegun tside sside s) =
      beside (startedBlocks .tilt (creepBegun tside sside s)) (startTold .tilt s) :=
    quietStart_beside s .tilt (u := creepBegun tside sside s) rfl rfl rfl
  have framed := startTold_eq_beside s .tilt
  have steer := quietStart_beside (startTold .tilt s) .steer (u := startedBlocks .tilt (creepBegun tside sside s))
    (by rw [framed]; rfl) (by rw [framed]; rfl) (by rw [framed]; rfl)
  rw [step, homingCheck_creepStarts (creepBegun tside sside s) homing, tilt, steer, homingCheck_beside]
  rfl

theorem startedChannel_seeks (d : DriveId) :
    (startedChannel d s).state = .seeking ↔
      (getChannel s (driveChannel d)).state = .seeking ∧ (getDrive s d).mode ≠ .fault := by
  unfold startedChannel
  cases faults : startFaults d s with
  | true =>
    have both := (startFaults_iff s d).mp faults
    simp [faultedChannel, both.2]
  | false =>
    rw [if_neg Bool.false_ne_true]
    refine ⟨fun seeking => ⟨seeking, fun fault => ?_⟩, fun h => h.1⟩
    rw [(startFaults_iff s d).mpr ⟨seeking, fault⟩] at faults
    contradiction

/-- The creep phase is over at once when neither shaft creeps (R55). -/
theorem creepOver_creepBlocks (tside sside : Bool) :
    creepOver (creepBlocks tside sside s) ↔
      ¬ (((getChannel s .tilt).state = .seeking ∧ (getDrive s .tilt).mode ≠ .fault) ∨
        ((getChannel s .steer).state = .seeking ∧ (getDrive s .steer).mode ≠ .fault)) := by
  rw [not_or]
  have tilt := startedChannel_seeks (creepBegun tside sside s) .tilt
  have steer := startedChannel_seeks (creepBegun tside sside s) .steer
  constructor
  · exact fun over_ => ⟨fun creeps => over_.2.1 (tilt.mpr creeps), fun creeps => over_.2.2 (steer.mpr creeps)⟩
  · exact fun none_ => ⟨rfl, fun creeps => none_.1 (tilt.mp creeps), fun creeps => none_.2 (steer.mp creeps)⟩

theorem afterCommand_of_fault {d : DriveId} (cmd : DriveCommand) (fault : (getDrive s d).mode = .fault) :
    afterCommand d cmd s = getDrive s d := if_pos fault

theorem afterCommand_of_able {d : DriveId} (cmd : DriveCommand) (able : (getDrive s d).mode ≠ .fault) :
    afterCommand d cmd s = commandedRecord d cmd s := if_neg able

/-- A drive in FAULT keeps its record (R146). -/
theorem startedDrive_of_fault {d : DriveId} (fault : (getDrive s d).mode = .fault) : startedDrive d s = getDrive s d := by
  unfold startedDrive
  split
  · exact afterCommand_of_fault s _ fault
  · exact afterCommand_of_fault s _ fault
  · exact afterCommand_of_fault s _ fault
  · exact afterCommand_of_fault s _ fault
  · rfl

theorem startedDrive_of_able {d : DriveId} (able : (getDrive s d).mode ≠ .fault) :
    startedDrive d s =
      match (getChannel s (driveChannel d)).state with
      | .seeking => commandedRecord d .creep s
      | .homed | .suspect => commandedRecord d (.hold 0) s
      | .fault => offRecord (getDrive s d)
      | .unhomed => getDrive s d := by
  unfold startedDrive
  cases (getChannel s (driveChannel d)).state with
  | seeking | homed | suspect => exact afterCommand_of_able s _ able
  | fault => exact afterCommand_off s d
  | unhomed => rfl

/-- A HOLD at 0 with the angle present (R53, R147). -/
theorem commandedRecord_hold (d : DriveId)
    (present : (getChannel s (driveChannel d)).state = .homed ∨ (getChannel s (driveChannel d)).state = .suspect) :
    commandedRecord d (.hold 0) s =
      { (if (getDrive s d).mode = .hold then getDrive s d else leftRecord (getDrive s d)) with
        mode := .hold
        holdTarget := some 0
        ePrev := some (0 - angleOfCount (getChannel s (driveChannel d)).count (cpr (par s) (driveChannel d)))
        shadow := 0
        satStart := none } := by
  unfold commandedRecord
  rw [angle_of_angleState s present]
  rfl

theorem startTold_of {d : DriveId} {t : State} (framed : t = beside s t) :
    startTold d t =
      if startFaults d s then postFaultNotice (homingTimeoutNotice (driveChannel d) s) t
      else match (getChannel s (driveChannel d)).state with
        | .unhomed => t
        | .seeking => leavingTold d t
        | .homed => if (getDrive s d).mode = .hold then t else leavingTold d t
        | .suspect => if (getDrive s d).mode = .hold then t else leavingTold d t
        | .fault => leavingTold d t := by
  have drive : getDrive t d = getDrive s d := by rw [framed, getDrive_beside]
  have channel : getChannel t (driveChannel d) = getChannel s (driveChannel d) := by rw [framed]; cases d <;> rfl
  have time : now t = now s := by rw [framed]; rfl
  have faults : startFaults d t = startFaults d s := by rw [startFaults, channel, drive]; rfl
  have notice : homingTimeoutNotice (driveChannel d) t = homingTimeoutNotice (driveChannel d) s := by
    rw [homingTimeoutNotice, time]
    rfl
  unfold startTold
  rw [faults, notice, channel, drive]
  split
  · rfl
  · cases (getChannel s (driveChannel d)).state <;> rfl

/-! ### BRAKE_RELEASED in UNLOCKING, and BRAKE_ENGAGED (R39, R51, R55, R58) -/

theorem brakeReleasedStep_of_unlocking (unlocking : s.regime.regime = .unlocking) :
    brakeReleasedStep s =
      postRegimeNotice ⟨.uprightHold, .unlocking, none, 0, msOf (now s)⟩
        { s with regime := { s.regime with regime := .uprightHold, dwellStart := none } } := by
  have step : brakeReleasedStep s = changeRegime .uprightHold none (setDwell none s) := by
    rw [brakeReleasedStep, unlocking]
  rw [step, ← unlocking]
  rfl

/-- PARKED is entered with both drives OFF, and tells of the saturations that end (R30, R51). -/
theorem enterParked_putRegime (r : RegimeControl) :
    enterParked (putRegime r s) =
      postRegimeNotice ⟨.parked, r.regime, none, 0, msOf (now s)⟩
        { leavingTold .steer (leavingTold .tilt s) with
          regime := { r with regime := .parked }
          drives := { s.drives with tilt := offRecord s.drives.tilt, steer := offRecord s.drives.steer } } := by
  have framed : leavingTold .steer (leavingTold .tilt s) = beside s (leavingTold .steer (leavingTold .tilt s)) := by
    rw [leavingTold_eq_beside .steer, leavingTold_eq_beside .tilt]
    rfl
  rw [enterParked_eq, bothOff_putRegime, bothOff_eq]
  generalize leavingTold .steer (leavingTold .tilt s) = told at framed ⊢
  conv => rhs; rw [framed]
  rfl

theorem safeTiltOff_eq :
    safeTiltOff s =
      { leavingTold .tilt s with
        regime := { s.regime with safeHolding := some false }
        drives := { s.drives with tilt := offRecord s.drives.tilt } } := by
  have framed := leavingTold_eq_beside .tilt s
  unfold safeTiltOff
  rw [commandOff_eq]
  generalize leavingTold .tilt s = told at framed ⊢
  rw [framed]
  rfl

/-- The record of a shaft's drive as the creep phase begins, spelt out (R53, R146, R147, R156). -/
theorem startedDrive_creepBegun (tside sside : Bool) (d : DriveId) :
    let duty : Int := (min (par s).creepDuty (par s).uMax : Nat)
    startedDrive d (creepBegun tside sside s) =
      if (getDrive s d).mode = .fault then getDrive s d
      else match (getChannel s (driveChannel d)).state with
        | .unhomed => getDrive s d
        | .seeking =>
          if (getDrive s d).mode = .creep then getDrive s d
          else { leftRecord (getDrive s d) with
            mode := .creep
            creepTimer := some (after (now s) 3000000)
            shadow := if (if d = .tilt then tside else sside) then -duty else duty }
        | .homed | .suspect =>
          { (if (getDrive s d).mode = .hold then getDrive s d else leftRecord (getDrive s d)) with
            mode := .hold
            holdTarget := some 0
            ePrev := some (0 - angleOfCount (getChannel s (driveChannel d)).count (cpr (par s) (driveChannel d)))
            shadow := 0
            satStart := none }
        | .fault => offRecord (getDrive s d) := by
  intro duty
  have drive : getDrive (creepBegun tside sside s) d = getDrive s d := by cases d <;> rfl
  have channel : getChannel (creepBegun tside sside s) (driveChannel d) = getChannel s (driveChannel d) := by
    cases d <;> rfl
  by_cases fault : (getDrive s d).mode = .fault
  · rw [if_pos fault, startedDrive_of_fault _ (drive ▸ fault), drive]
  · rw [if_neg fault, startedDrive_of_able _ (drive ▸ fault), drive, channel]
    cases state : (getChannel s (driveChannel d)).state with
    | unhomed | fault => rfl
    | homed => exact (commandedRecord_hold _ d (.inl (channel ▸ state))).trans (by rw [drive, channel]; rfl)
    | suspect => exact (commandedRecord_hold _ d (.inr (channel ▸ state))).trans (by rw [drive, channel]; rfl)
    | seeking =>
      have crept : creepDuty (creepBegun tside sside s) d =
          if (if d = .tilt then tside else sside) then -duty else duty := by
        rw [show duty = min ((par s).creepDuty : Int) (par s).uMax by omega]
        cases d <;> rfl
      unfold commandedRecord
      rw [drive, crept]
      rfl

theorem creepBlocks_eq (tside sside : Bool) :
    creepBlocks tside sside s =
      { s with
        pins := { s.pins with tside := tside, sside := sside }
        regime := { s.regime with phase := some .creep }
        channels := ⟨startedChannel .tilt (creepBegun tside sside s), startedChannel .steer (creepBegun tside sside s),
          s.channels.bar⟩
        drives := { s.drives with
          tilt := startedDrive .tilt (creepBegun tside sside s)
          steer := startedDrive .steer (creepBegun tside sside s) } } := rfl

/-- The check of the creep phase at its beginning (R55, R163). -/
theorem homingCheck_creepBlocks (tside sside : Bool) (released : s.drives.brake.state = .released) :
    homingCheck (creepBlocks tside sside s) =
      if ((getChannel s .tilt).state = .seeking ∧ (getDrive s .tilt).mode ≠ .fault) ∨
          ((getChannel s .steer).state = .seeking ∧ (getDrive s .steer).mode ≠ .fault) then
        creepBlocks tside sside s
      else putControl { s.regime with phase := some .engaging }
        (if s.pins.brks then ⟨.engaging, false, some (after (now s) 150000)⟩ else ⟨.engaged, false, none⟩)
        (creepBlocks tside sside s) := by
  have over_ := creepOver_creepBlocks s tside sside
  have brake : engageBrake (creepBlocks tside sside s) =
      if s.pins.brks then ⟨.engaging, false, some (after (now s) 150000)⟩ else ⟨.engaged, false, none⟩ := by
    unfold engageBrake
    rw [show (creepBlocks tside sside s).drives.brake.state = .released from released]
    rfl
  split
  · next goes => exact homingCheck_of_not_done _ fun done => over_.mp done goes
  · next ends =>
    rw [homingCheck_of_done _ (over_.mpr ends), brake]
    rfl

/-- Settles O42: the completions of the brake. -/
theorem brakeCompletions : Obligations.BrakeCompletions := by
  unfold Obligations.BrakeCompletions
  refine ⟨fun tside sside s released => ⟨fun unlocking => ?_, fun homing releasing => ?_⟩, fun s engaged =>
    ⟨fun ends => ?_, fun safe holding => ?_⟩⟩
  · have due : releasedDue s = true := decide_eq_true ⟨released, .inl unlocking⟩
    simp only [exec_brakeReleased, execBrakeReleased]
    rw [if_pos due, brakeReleasedStep_of_unlocking (sampleSides tside sside s) unlocking]
    rfl
  · intro seeks faults creeps side duty channel held crept drive told creeping
    have due : releasedDue s = true := decide_eq_true ⟨released, .inr ⟨homing, releasing⟩⟩
    simp only [exec_brakeReleased, execBrakeReleased]
    rw [if_pos due, brakeReleasedStep_of_homing s tside sside homing]
    have channels (d : DriveId) : startedChannel d (creepBegun tside sside s) = channel d := by cases d <;> rfl
    have drives (d : DriveId) : startedDrive d (creepBegun tside sside s) = drive d :=
      startedDrive_creepBegun s tside sside d
    have tells : creepTold s = told .steer (told .tilt s) := by
      have tilt : startTold .tilt s = told .tilt s := startTold_of s rfl
      have framed : told .tilt s = beside s (told .tilt s) := tilt ▸ startTold_eq_beside s .tilt
      rw [creepTold, tilt]
      exact startTold_of s framed
    have goesOn : creeping = true ↔
        ((getChannel s .tilt).state = .seeking ∧ (getDrive s .tilt).mode ≠ .fault) ∨
          ((getChannel s .steer).state = .seeking ∧ (getDrive s .steer).mode ≠ .fault) := by
      simp [creeping, creeps, seeks, driveChannel]
    have framed := creepTold_eq_beside s
    rw [tells] at framed ⊢
    rw [with_eq_beside s framed]
    refine congrArg (fun u => Host.Outcome.next (beside u _)) ?_
    rw [homingCheck_creepBlocks s tside sside released, creepBlocks_eq, channels, channels, drives, drives]
    by_cases goes : creeping = true
    · rw [if_pos (goesOn.mp goes), if_pos goes, if_pos goes]
    · rw [if_neg (goes ∘ goesOn.mpr), if_neg goes, if_neg goes]
      rfl
  · have due : engagedDue s = true := decide_eq_true ⟨engaged, ends.imp_right .inl⟩
    simp only [exec_brakeEngaged, execBrakeEngaged]
    rw [if_pos due]
    refine congrArg _ ?_
    obtain locking | ⟨homing, -⟩ := ends
    · have step : brakeEngagedStep s = enterParked (putRegime s.regime s) := by rw [brakeEngagedStep, locking]; rfl
      rw [step, enterParked_putRegime, if_neg (by simp [locking])]
    · have step : brakeEngagedStep s = enterParked (putRegime { s.regime with phase := none } s) := by
        rw [brakeEngagedStep, homing]
        rfl
      rw [step, enterParked_putRegime, if_pos homing]
  · have due : engagedDue s = true := decide_eq_true ⟨engaged, .inr (.inr ⟨safe, holding⟩)⟩
    have step : brakeEngagedStep s = safeTiltOff s := by rw [brakeEngagedStep, safe]
    simp only [exec_brakeEngaged, execBrakeEngaged]
    rw [if_pos due, step, safeTiltOff_eq]

end Sys2Proof.Machine
end

section
/-! The angle channels: line events, index events, the range check and the suspect timer (R81 to R96). -/

namespace Sys2Proof.Machine

variable (s : State)

theorem setChannel_setChannel (c : ChannelId) (r r' : Channel) : setChannel c r (setChannel c r' s) = setChannel c r s := by
  cases c <;> rfl

/-! ### Line events (R81 to R85, R92) -/

theorem decodeMove_same (l : LinePair) : decodeMove l l = .none := by
  obtain ⟨a, b⟩ := l
  cases a <;> cases b <;> rfl

theorem decodeMove_up (l : LinePair) : decodeMove l ⟨!l.b, l.a⟩ = .up := by
  obtain ⟨a, b⟩ := l
  cases a <;> cases b <;> rfl

theorem decodeMove_down (l : LinePair) : decodeMove l ⟨l.b, !l.a⟩ = .down := by
  obtain ⟨a, b⟩ := l
  cases a <;> cases b <;> rfl

theorem decodeMove_illegal (l : LinePair) : decodeMove l ⟨!l.a, !l.b⟩ = .illegal := by
  obtain ⟨a, b⟩ := l
  cases a <;> cases b <;> rfl

theorem lineStep_of_none {c : ChannelId} {lines : LinePair} (z : Bool)
    (move : decodeMove (getChannel s c).lines lines = .none) : lineStep c lines z s = s := by
  rw [lineStep, move]

theorem lineStep_of_illegal {c : ChannelId} {lines : LinePair} (z : Bool)
    (move : decodeMove (getChannel s c).lines lines = .illegal) : lineStep c lines z s = illegalTransition c lines s := by
  rw [lineStep, move]

theorem lineStep_of_up {c : ChannelId} {lines : LinePair} (z : Bool)
    (move : decodeMove (getChannel s c).lines lines = .up) : lineStep c lines z s = legalStep c .up lines z s := by
  rw [lineStep, move]

theorem lineStep_of_down {c : ChannelId} {lines : LinePair} (z : Bool)
    (move : decodeMove (getChannel s c).lines lines = .down) : lineStep c lines z s = legalStep c .down lines z s := by
  rw [lineStep, move]

/-- The direction test writes the direction of the step, and tells of a reversal (R83). -/
theorem directionTest_setChannel (c : ChannelId) (d : Direction) (r : Channel) :
    directionTest c d (setChannel c r s) =
      if r.direction = d then setChannel c { r with direction := d } s
      else deliver .reversal (channelKind c) (setChannel c { r with direction := d } s) := by
  unfold directionTest
  rw [getChannel_setChannel, setChannel_setChannel]
  split
  · next same => rw [← same]
  · rfl

/-- Settles O44: line events. -/
theorem lineEvents : Obligations.LineEvents := by
  unfold Obligations.LineEvents
  intro c z s ch up down turned
  have turns (d : Direction) (count : BitVec 32) (lines : LinePair) :
      directionTest c d (setChannel c { ch with count := count, lines := lines } s) = turned d count lines :=
    directionTest_setChannel s c d { ch with count := count, lines := lines }
  simp only [exec_lineEvent, execLineEvent]
  refine ⟨?_, ?_, ?_, ?_⟩
  · rw [lineStep_of_none s z (decodeMove_same ch.lines)]
  · rw [lineStep_of_up s z (decodeMove_up ch.lines)]
    unfold legalStep
    dsimp only
    rw [show moveDirection .up = .positive from rfl, turns]
    rfl
  · rw [lineStep_of_down s z (decodeMove_down ch.lines)]
    unfold legalStep
    dsimp only
    rw [show moveDirection .down = .negative from rfl, turns]
    rfl
  · rw [lineStep_of_illegal s z (decodeMove_illegal ch.lines)]
    unfold illegalTransition
    by_cases homed : ch.state = .homed
    · rw [if_pos homed, if_pos homed]
      exact congrArg (fun r => Host.Outcome.next (deliver .quadError (channelKind c) (setChannel c r s))) (if_pos homed)
    · rw [if_neg homed, if_neg homed]
      exact congrArg (fun r => Host.Outcome.next (deliver .quadError (channelKind c) (setChannel c r s))) (if_neg homed)

/-! ### Index events, range checks and the suspect timer (R87 to R96) -/

theorem indexEvent_of_confirming {c : ChannelId}
    (present : (getChannel s c).state = .homed ∨ (getChannel s c).state = .suspect) : indexEvent c s = confirmIndex c s := by
  unfold indexEvent
  obtain state | state := present <;> rw [state]

theorem faultChannel_setChannel (c : ChannelId) (cause : FaultCause) (value : Int) (r : Channel) :
    faultChannel c cause value (setChannel c r s) =
      faultReport (.channel c) cause value (setChannel c { r with state := .fault, suspectStart := none } s) := by
  rw [faultChannel, getChannel_setChannel, setChannel_setChannel]

theorem indexFound_of_elsewhere (c : ChannelId) (other : s.regime.regime ≠ .homing ∨ s.regime.phase ≠ some .creep) :
    indexFound c s = s := by
  unfold indexFound
  split
  · next homing creep => simp [homing, creep] at other
  · next homing creep => simp [homing, creep] at other
  · rfl

theorem rangeCheck_of_angle {c : ChannelId}
    (present : (getChannel s c).state = .homed ∨ (getChannel s c).state = .suspect) :
    rangeCheck c s =
      if rangeLimit (par s) c + 500 < (angleOfCount (getChannel s c).count (cpr (par s) c)).natAbs then
        faultChannel c .outOfRange (angleOfCount (getChannel s c).count (cpr (par s) c)) s
      else s := by
  unfold rangeCheck
  rw [angle_of_angleState s present]

theorem rangeLimit_eq (p : Params) (c : ChannelId) :
    rangeLimit p c = if c = .tilt then p.tiltLimit else if c = .steer then p.steerLimit else 5500 := by
  cases c <;> rfl

/-- Settles O45: index events, range checks and the suspect timer. -/
theorem indexAndRange : Obligations.IndexAndRange := by
  unfold Obligations.IndexAndRange
  intro c s ch faulted
  refine ⟨fun rests => ?_, fun unhomed bar => ?_, fun seeking => ⟨fun other => ?_, fun homing creep tilt => ?_,
    fun homing creep steer => ?_⟩, fun present near => ?_, fun present far => ?_, fun homed suspect => ?_,
    fun present => ⟨fun inside => ?_, fun beyond => ?_⟩, fun t start suspect expired => ?_⟩
  · obtain fault | ⟨unhomed, other⟩ := rests
    · rw [indexEvent, show (getChannel s c).state = .fault from fault]
    · rw [indexEvent, show (getChannel s c).state = .unhomed from unhomed]
      exact if_neg other
  · rw [indexEvent, show (getChannel s c).state = .unhomed from unhomed]
    exact if_pos bar
  · rw [indexEvent, show (getChannel s c).state = .seeking from seeking]
    exact indexFound_of_elsewhere (homeAtIndex c s) c (by cases c <;> exact other)
  · rw [indexEvent, show (getChannel s c).state = .seeking from seeking]
    subst tilt
    unfold indexFound
    rw [show (homeAtIndex .tilt s).regime.regime = .homing from homing,
      show (homeAtIndex .tilt s).regime.phase = some .creep from creep]
    rfl
  · rw [indexEvent, show (getChannel s c).state = .seeking from seeking]
    subst steer
    unfold indexFound
    rw [show (homeAtIndex .steer s).regime.regime = .homing from homing,
      show (homeAtIndex .steer s).regime.phase = some .creep from creep]
    rfl
  · rw [indexEvent_of_confirming s present]
    exact if_pos near
  · rw [indexEvent_of_confirming s present]
    refine (if_neg (Nat.not_le.mpr far)).trans ?_
    exact faultChannel_setChannel s c _ _ _
  · rw [rangeCheck, angle_of_no_angleState s homed suspect]
  · rw [rangeCheck_of_angle s present, rangeLimit_eq]
    exact if_neg (Nat.not_lt.mpr inside)
  · rw [rangeCheck_of_angle s present, rangeLimit_eq]
    exact if_pos beyond
  · have due : suspectDue s c = true := (suspectDue_iff s c).mpr ⟨suspect, t, start, expired⟩
    simp only [exec_suspectTimerExpiry, execSuspectTimerExpiry]
    rw [if_pos due]
    rfl

end Sys2Proof.Machine
end

section
/-! The wheel unit: edges, the INVALID test, readings, the selected speed and the disagreement evaluation (R103 to R118). -/

namespace Sys2Proof.Machine

variable (s : State)

theorem circumference_eq (p : Params) (w : WheelId) : circumference p w = if w = .rr then p.circRear else p.circFront := by
  cases w <;> rfl

/-- The speed of a period, at most 4000 (R103). -/
theorem wheelSpeed_eq (p : Params) (w : WheelId) (t : Nat) :
    wheelSpeed p w t = min 4000 ((if w = .rr then p.circRear else p.circFront) * 100000 / (p.wheelPpr * t)) := by
  rw [wheelSpeed, circumference_eq]

/-! ### Rising edges (R105 to R108) -/

theorem wheelEdgeStep_of_invalid {w : WheelId} (invalid : (getWheel s w).state = .invalid) : wheelEdgeStep w s = s := by
  rw [wheelEdgeStep, invalid]

theorem wheelEdgeStep_of_stopped {w : WheelId} (stopped : (getWheel s w).state = .stopped) :
    wheelEdgeStep w s = followOn w (setWheel w ⟨.rolling, now s, none, 0⟩ s) := by
  rw [wheelEdgeStep, stopped]
  rfl

theorem wheelEdgeStep_of_rolling {w : WheelId} (rolling : (getWheel s w).state = .rolling) :
    wheelEdgeStep w s =
      if elapsed (getWheel s w).lastEdge (now s) < 100 then deliver .wheelGlitch (wheelKind w) s
      else followOn w (laterEdge w s) := by
  rw [wheelEdgeStep, rolling]

/-! ### The INVALID test (R110, R111) -/

theorem readsFast_iff (w : WheelId) : readsFast s w = true ↔ ∃ v, reading s w = some v ∧ 300 < v := by
  unfold readsFast
  cases reading s w <;> simp

theorem isSilent_iff (w : WheelId) :
    isSilent s w = true ↔
      (getWheel s w).state ≠ .invalid ∧ 2000000 ≤ elapsed (getWheel s w).lastEdge (now s) ∧
        ((∃ v, reading s (otherWheels w).1 = some v ∧ 300 < v) ∨ (getWheel s (otherWheels w).1).state = .invalid) ∧
        ((∃ v, reading s (otherWheels w).2 = some v ∧ 300 < v) ∨ (getWheel s (otherWheels w).2).state = .invalid) ∧
        ((∃ v, reading s (otherWheels w).1 = some v ∧ 300 < v) ∨ ∃ v, reading s (otherWheels w).2 = some v ∧ 300 < v) := by
  simp only [isSilent, Bool.and_eq_true, Bool.or_eq_true, decide_eq_true_iff, beq_iff_eq, readsFast_iff, and_assoc]

theorem invalidTest_of_sound {w : WheelId} (sound : ¬ isSilent s w = true) : invalidTest w s = s := if_neg sound

theorem invalidTest_of_silent {w : WheelId} (silent : isSilent s w = true) : invalidTest w s = makeInvalid w s :=
  if_pos silent

/-- Settles O46: rising edges and the INVALID test. -/
theorem wheelEdges : Obligations.WheelEdges := by
  unfold Obligations.WheelEdges
  intro w s r y z period circ followed
  simp only [exec_wheelEdge, execWheelEdge]
  refine ⟨fun invalid => ?_, fun rolling short => ?_, fun rolling long => ?_, fun stopped => ?_, fun sound => ?_,
    fun valid long one other fast => ?_⟩
  · rw [wheelEdgeStep_of_invalid s invalid]
  · rw [wheelEdgeStep_of_rolling s rolling]
    exact congrArg _ (if_pos short)
  · rw [wheelEdgeStep_of_rolling s rolling]
    refine congrArg _ ((if_neg (Nat.not_lt.mpr long)).trans ?_)
    rw [laterEdge, wheelSpeed_eq]
    rfl
  · rw [wheelEdgeStep_of_stopped s stopped]
    rfl
  · exact invalidTest_of_sound s (sound ∘ (isSilent_iff s w).mp)
  · exact invalidTest_of_silent s ((isSilent_iff s w).mpr ⟨valid, long, one, other, fast⟩)

/-! ### Readings and the selected speed (R103, R104, R113, R114) -/

theorem reading_of_stopped {w : WheelId} (stopped : (getWheel s w).state = .stopped) : reading s w = some 0 := by
  rw [reading, stopped]

theorem reading_of_invalid {w : WheelId} (invalid : (getWheel s w).state = .invalid) : reading s w = none := by
  rw [reading, invalid]

theorem reading_of_first_edge {w : WheelId} (rolling : (getWheel s w).state = .rolling)
    (first : (getWheel s w).lastPeriod = none) : reading s w = some 0 := by
  rw [reading, rolling, first]

theorem reading_of_period {w : WheelId} {period : Nat} (rolling : (getWheel s w).state = .rolling)
    (held : (getWheel s w).lastPeriod = some period) :
    reading s w =
      if elapsed (getWheel s w).lastEdge (now s) ≤ period then some (getWheel s w).lastSpeed
      else some (min (getWheel s w).lastSpeed (wheelSpeed (par s) w (elapsed (getWheel s w).lastEdge (now s)))) := by
  rw [reading, rolling, held]

/-- The median is one of the three, with two of them at or below it and two at or above it (R113). -/
theorem median_mem (x y z : Nat) : median x y z ∈ [x, y, z] := by
  have one : median x y z = x ∨ median x y z = y ∨ median x y z = z := by unfold median; omega
  simpa using one

theorem two_le_median (x y z : Nat) : 2 ≤ ([x, y, z].filter (fun v => decide (v ≤ median x y z))).length := by
  have pairs : (x ≤ median x y z ∧ y ≤ median x y z) ∨ (x ≤ median x y z ∧ z ≤ median x y z) ∨
      (y ≤ median x y z ∧ z ≤ median x y z) := by unfold median; omega
  obtain ⟨a, b⟩ | ⟨a, b⟩ | ⟨a, b⟩ := pairs <;> simp only [List.filter_cons, a, b, decide_true, if_true, List.filter_nil] <;>
    split <;> simp

theorem two_ge_median (x y z : Nat) : 2 ≤ ([x, y, z].filter (fun v => decide (median x y z ≤ v))).length := by
  have pairs : (median x y z ≤ x ∧ median x y z ≤ y) ∨ (median x y z ≤ x ∧ median x y z ≤ z) ∨
      (median x y z ≤ y ∧ median x y z ≤ z) := by unfold median; omega
  obtain ⟨a, b⟩ | ⟨a, b⟩ | ⟨a, b⟩ := pairs <;> simp only [List.filter_cons, a, b, decide_true, if_true, List.filter_nil] <;>
    split <;> simp

theorem selectedSpeed_of_three {x y z : Nat} (fl : reading s .fl = some x) (fr : reading s .fr = some y)
    (rr : reading s .rr = some z) : selectedSpeed s = some (min (median x y z) 2000) := by
  rw [selectedSpeed, fl, fr, rr, Nat.min_comm]
  rfl

/-- With one wheel INVALID the lower of the two others is selected (R113). -/
theorem selectedSpeed_of_two {w : WheelId} {x y : Nat} (lost : reading s w = none)
    (one : reading s (otherWheels w).1 = some x) (other : reading s (otherWheels w).2 = some y) :
    selectedSpeed s = some (min (min x y) 2000) := by
  rw [Nat.min_comm]
  cases w <;> (rw [otherWheels] at one other; rw [selectedSpeed, lost, one, other]; rfl)

/-- With two wheels INVALID the speed is unknown (R113). -/
theorem selectedSpeed_of_one {w : WheelId} (one : reading s (otherWheels w).1 = none)
    (other : reading s (otherWheels w).2 = none) : selectedSpeed s = none := by
  cases w <;> (rw [otherWheels] at one other; rw [selectedSpeed, one, other]; cases reading s _ <;> rfl)

/-! ### The disagreement evaluation (R115, R116, R118) -/

/-- The verdict on three readings and the selected speed (R115). -/
theorem verdict_of_known {fl fr rr v : Nat} (one : reading s .fl = some fl) (two : reading s .fr = some fr)
    (three : reading s .rr = some rr) (known : selectedSpeed s = some v) :
    verdict s = verdictOf (par s) fl fr rr v := by
  rw [verdict, one, two, three, speedNow_of_some s known]
  rfl

/-- The run keeps its start while the verdict stays (R116). -/
theorem updatedRun_of_same (v : Verdict) (t start : Time) : updatedRun v t (some ⟨v, start⟩) = ⟨v, start⟩ := if_pos rfl

theorem updatedRun_of_new {v : Verdict} (t : Time) {run : Option SlipRun} (new : ¬ ∃ r, run = some r ∧ r.kind = v) :
    updatedRun v t run = ⟨v, t⟩ := by
  cases run with
  | none => rfl
  | some r => exact if_neg fun same => new ⟨r, rfl, same⟩

/-- A run that begins changes nothing of the slip flag (R116). -/
theorem slipAfter_of_begun (slip : Bool) (v : Verdict) (t : Time) : slipAfter slip ⟨v, t⟩ t = slip := by
  cases v <;> simp [slipAfter]

theorem evaluate_of_new {v : Verdict} (is : verdict s = v) (new : ¬ ∃ r, s.wheels.run = some r ∧ r.kind = v) :
    evaluate s = { s with wheels := { s.wheels with run := some ⟨v, now s⟩ } } := by
  unfold evaluate
  dsimp only
  rw [is, updatedRun_of_new (now s) new, slipAfter_of_begun]
  exact changeSlip_of_eq _ _ rfl

/-- A run that goes on leaves the slip flag to its duration (R116). -/
theorem evaluate_of_run {v : Verdict} {start : Time} (is : verdict s = v) (run : s.wheels.run = some ⟨v, start⟩) :
    evaluate s = changeSlip (slipAfter s.wheels.slip ⟨v, start⟩ (now s)) s := by
  have kept : setRun (some ⟨v, start⟩) s = s := by rw [← run]; rfl
  unfold evaluate
  dsimp only
  rw [is, run, updatedRun_of_same, kept]

/-- Settles O47: readings, the selected speed, the disagreement evaluation and wheel slip. -/
theorem disagreementEvaluation : Obligations.DisagreementEvaluation := by
  unfold Obligations.DisagreementEvaluation
  refine ⟨fun w s => ⟨reading_of_stopped s, reading_of_first_edge s, fun period rolling held => ⟨fun within => ?_, fun beyond => ?_⟩,
    reading_of_invalid s⟩, fun s => ⟨fun fl fr rr one two three => ?_, fun w x y lost one other =>
    selectedSpeed_of_two s lost one other, fun w one other => selectedSpeed_of_one s one other⟩, fun fl fr rr v s one two three
    known => ?_⟩
  · rw [reading_of_period s rolling held, if_pos within]
  · rw [reading_of_period s rolling held, if_neg (Nat.not_le.mpr beyond), wheelSpeed_eq]
  · exact ⟨_, median_mem fl fr rr, selectedSpeed_of_three s one two three, two_le_median fl fr rr, two_ge_median fl fr rr⟩
  · intro kind keeps
    have is : verdict s = kind := verdict_of_known s one two three known
    refine ⟨fun new => evaluate_of_new s is new, fun start run => ⟨fun disagree clear long => ?_, fun agree set long => ?_,
      fun disagree stays => ?_, fun agree stays => ?_⟩⟩
    all_goals rw [evaluate_of_run s is run]
    · have sets : slipAfter s.wheels.slip ⟨kind, start⟩ (now s) = true := by simp [slipAfter, disagree, long]
      rw [sets, changeSlip_of_ne s true (by simp [clear])]
    · have clears : slipAfter s.wheels.slip ⟨kind, start⟩ (now s) = false := by simp [slipAfter, agree, long]
      rw [clears, changeSlip_of_ne s false (by simp [set])]
    · refine changeSlip_of_eq s _ ?_
      obtain set | short := stays
      · simp [slipAfter, disagree, set]
      · simp [slipAfter, disagree, Nat.not_le.mpr short]
    · refine changeSlip_of_eq s _ ?_
      obtain clear | short := stays
      · simp [slipAfter, agree, clear]
      · simp [slipAfter, agree, Nat.not_le.mpr short]

end Sys2Proof.Machine
end

section
/-! The time base and the motion intake: strobes, missed strobes, motion reports and their steps (R122 to R143). -/

namespace Sys2Proof.Machine

variable (s : State)

/-! ### Changes of the time base (R122, R128) -/

theorem before_zero (t : Time) : before t 0 = t := by simp [before]

/-- A boundary now (R122). -/
theorem markBoundary_zero (t : TimeBase) : markBoundary 0 t = { t with gridStart := some t.localTime } := by
  rw [markBoundary, before_zero]

/-- A change that keeps the sync state posts nothing (R128). -/
theorem changeTimeBase_of_same {t : TimeBase} (same : t.sync = s.timeBase.sync) :
    changeTimeBase t s = { s with timeBase := t } := if_pos same

/-- A change of the sync state posts its notice (R128). -/
theorem changeTimeBase_of_change {t : TimeBase} (changes : t.sync ≠ s.timeBase.sync) (time : t.localTime = now s) :
    changeTimeBase t s =
      postTimebaseNotice ⟨t.sync, s.timeBase.sync, t.frameCount, t.aligned, msOf (now s)⟩ { s with timeBase := t } := by
  rw [← time]
  exact if_neg changes

/-- The loss of synchronisation (R129). -/
theorem enterUnsynced_of_synced (synced : s.timeBase.sync ≠ .unsynced) :
    enterUnsynced s =
      postTimebaseNotice ⟨.unsynced, s.timeBase.sync, s.timeBase.frameCount, false, msOf (now s)⟩
        { s with timeBase :=
            { s.timeBase with sync := .unsynced, gridStart := none, aligned := false, goodRun := 0, missedRun := 0 } } :=
  changeTimeBase_of_change s (fun same => synced same.symm) rfl

/-! ### Strobes (R123 to R127) -/

theorem strobeStep_of_unsynced (unsynced : s.timeBase.sync = .unsynced) : strobeStep s = startGrid s := by
  rw [strobeStep, unsynced]

theorem strobeStep_of_grid {g : Time} (grid : s.timeBase.gridStart = some g) (synced : s.timeBase.sync ≠ .unsynced) :
    strobeStep s =
      if isEarly (par s) (elapsed g (now s)) then deliver .strobe 2 (changeTimeBase (afterEarly s.timeBase) s)
      else deliver .strobe 1 (changeTimeBase (afterGood s.timeBase) s) := by
  have fine : finePosition s = some (elapsed g (now s)) := by rw [finePosition, grid]; rfl
  have early : strobeKinds false true false = 2 := by decide
  have good : strobeKinds true false false = 1 := by decide
  unfold strobeStep
  rw [fine, early, good]
  cases sync : s.timeBase.sync with
  | unsynced => contradiction
  | syncing | locked | holdover => rfl

/-- The first strobe starts a grid (R124). -/
theorem startGrid_of_unsynced (unsynced : s.timeBase.sync = .unsynced) :
    startGrid s =
      postTimebaseNotice ⟨.syncing, s.timeBase.sync, s.timeBase.frameCount, s.timeBase.aligned, msOf (now s)⟩
        { s with timeBase :=
            { s.timeBase with sync := .syncing, gridStart := some (now s), goodRun := 1, missedRun := 0 } } := by
  rw [startGrid, markBoundary_zero]
  exact changeTimeBase_of_change s (by simp [unsynced]) rfl

/-- An early strobe (R123). -/
theorem strobeStep_of_early {g : Time} (grid : s.timeBase.gridStart = some g) (synced : s.timeBase.sync ≠ .unsynced)
    (early : elapsed g (now s) + (par s).strobeWindow < (par s).framePeriod) :
    strobeStep s = deliver .strobe 2 (changeTimeBase (afterEarly s.timeBase) s) := by
  have below : isEarly (par s) (elapsed g (now s)) = true := decide_eq_true early
  rw [strobeStep_of_grid s grid synced, if_pos below]

/-- A good strobe (R123). -/
theorem strobeStep_of_good {g : Time} (grid : s.timeBase.gridStart = some g) (synced : s.timeBase.sync ≠ .unsynced)
    (good : (par s).framePeriod ≤ elapsed g (now s) + (par s).strobeWindow) :
    strobeStep s = deliver .strobe 1 (changeTimeBase (afterGood s.timeBase) s) := by
  rw [strobeStep_of_grid s grid synced, if_neg]
  simpa [isEarly] using good

theorem afterEarly_of_syncing {t : TimeBase} (syncing : t.sync = .syncing) :
    afterEarly t = { t with gridStart := some t.localTime, goodRun := 1 } := by
  simp only [afterEarly, syncing, markBoundary_zero]

theorem afterEarly_of_locked {t : TimeBase} (locked : t.sync = .locked) : afterEarly t = t := by rw [afterEarly, locked]

theorem afterEarly_of_holdover {t : TimeBase} (holdover : t.sync = .holdover) : afterEarly t = { t with goodRun := 0 } := by
  rw [afterEarly, holdover]

/-- The time base with a boundary now and the frame count advanced (R122). -/
def marked (t : TimeBase) : TimeBase := { t with gridStart := some t.localTime, frameCount := t.frameCount + 1 }

theorem advanceFrame_markBoundary_zero (t : TimeBase) : advanceFrame (markBoundary 0 t) = marked t := by
  rw [markBoundary_zero]
  rfl

theorem afterGood_of_locked {t : TimeBase} (locked : t.sync = .locked) :
    afterGood t = { marked t with missedRun := 0 } := by
  rw [afterGood, locked, advanceFrame_markBoundary_zero]

theorem afterGood_of_syncing {t : TimeBase} (syncing : t.sync = .syncing) (short : t.goodRun ≠ 3) :
    afterGood t = { marked t with goodRun := t.goodRun + 1 } := by
  rw [afterGood, syncing, advanceFrame_markBoundary_zero]
  exact if_neg (by omega)

theorem afterGood_of_holdover {t : TimeBase} (holdover : t.sync = .holdover) (short : t.goodRun ≠ 3) :
    afterGood t = { marked t with goodRun := t.goodRun + 1, missedRun := 0 } := by
  rw [afterGood, holdover, advanceFrame_markBoundary_zero]
  exact if_neg (by omega)

/-- The fourth good strobe in a row locks the grid (R125, R127). -/
theorem afterGood_of_full {t : TimeBase} (seeks : t.sync = .syncing ∨ t.sync = .holdover) (full : t.goodRun = 3) :
    afterGood t = { marked t with goodRun := 4, missedRun := 0, sync := .locked } := by
  obtain syncing | holdover := seeks
  · rw [afterGood, syncing, advanceFrame_markBoundary_zero]
    exact if_pos (by omega)
  · rw [afterGood, holdover, advanceFrame_markBoundary_zero]
    exact if_pos (by omega)

/-! ### Missed strobes (R125 to R129) -/

/-- The time base with the boundary a window ago and one more strobe missed (R126, R127). -/
def missedMark (p : Params) (t : TimeBase) : TimeBase :=
  { t with
    gridStart := some (before t.localTime p.strobeWindow), frameCount := t.frameCount + 1, missedRun := t.missedRun + 1 }

theorem missedStep_of_syncing (syncing : s.timeBase.sync = .syncing) : missedStep s = enterUnsynced s := by
  rw [missedStep, syncing]

theorem missedStep_of_locked (locked : s.timeBase.sync = .locked) (few : s.timeBase.missedRun ≠ 2) :
    missedStep s = { s with timeBase := missedMark (par s) s.timeBase } := by
  rw [missedStep, locked]
  refine (if_neg (by omega)).trans ?_
  exact changeTimeBase_of_same s rfl

theorem missedStep_of_lost (locked : s.timeBase.sync = .locked) (third : s.timeBase.missedRun = 2) :
    missedStep s =
      changeTimeBase { missedMark (par s) s.timeBase with missedRun := 3, goodRun := 0, sync := .holdover } s := by
  rw [missedStep, locked]
  exact if_pos (by omega)

theorem missedStep_of_holdover (holdover : s.timeBase.sync = .holdover) (few : s.timeBase.missedRun < 49) :
    missedStep s = { s with timeBase := { missedMark (par s) s.timeBase with goodRun := 0 } } := by
  rw [missedStep, holdover]
  refine (if_pos few).trans ?_
  exact changeTimeBase_of_same s rfl

theorem missedStep_of_end (holdover : s.timeBase.sync = .holdover) (many : 49 ≤ s.timeBase.missedRun) :
    missedStep s = enterUnsynced s := by
  rw [missedStep, holdover]
  exact if_neg (Nat.not_lt.mpr many)

/-- Settles O49: strobes and missed strobes by the sync state. -/
theorem strobes : Obligations.Strobes := by
  unfold Obligations.Strobes
  refine ⟨fun s => ?_, fun g s grid expired => ?_⟩
  · intro b noted marked_
    simp only [exec_strobe, execStrobe]
    refine ⟨fun unsynced => ?_, fun g grid synced => ⟨fun early => ⟨fun syncing => ?_, fun locked => ?_, fun holdover => ?_⟩,
      fun good => ⟨fun locked => ?_, fun syncing short => ?_, fun holdover short => ?_, fun seeks full => ?_⟩⟩⟩
    · rw [strobeStep_of_unsynced s unsynced, startGrid_of_unsynced s unsynced]
    · rw [strobeStep_of_early s grid synced early, afterEarly_of_syncing syncing, changeTimeBase_of_same s (by rfl)]
      rfl
    · rw [strobeStep_of_early s grid synced early, afterEarly_of_locked locked, changeTimeBase_of_same s (by rfl)]
    · rw [strobeStep_of_early s grid synced early, afterEarly_of_holdover holdover, changeTimeBase_of_same s (by rfl)]
    · rw [strobeStep_of_good s grid synced good, afterGood_of_locked locked, changeTimeBase_of_same s (by rfl)]
      rfl
    · rw [strobeStep_of_good s grid synced good, afterGood_of_syncing syncing short, changeTimeBase_of_same s (by rfl)]
      rfl
    · rw [strobeStep_of_good s grid synced good, afterGood_of_holdover holdover short, changeTimeBase_of_same s (by rfl)]
      rfl
    · have changes : Sync.locked ≠ s.timeBase.sync := by
        obtain syncing | holdover := seeks
        · rw [show s.timeBase.sync = .syncing from syncing]; decide
        · rw [show s.timeBase.sync = .holdover from holdover]; decide
      rw [strobeStep_of_good s grid synced good, afterGood_of_full seeks full, changeTimeBase_of_change s changes (by rfl)]
      rfl
  · intro b noted lost marked_
    have missed : strobeKinds false false true = 4 := by decide
    have ran (synced : b.sync ≠ .unsynced) : exec .missedStrobe s = .next (deliver .strobe 4 (missedStep s)) := by
      have due : windowDue s = true := (windowDue_iff s).mpr ⟨synced, g, grid, expired⟩
      simp only [exec_missedStrobe, execMissedStrobe]
      rw [if_pos due, missed]
    have loses (synced : b.sync ≠ .unsynced) : enterUnsynced s = lost := enterUnsynced_of_synced s synced
    refine ⟨fun syncing => ?_, fun locked few => ?_, fun locked third => ?_, fun holdover few => ?_, fun holdover many => ?_⟩
    · have synced : b.sync ≠ .unsynced := by simp [syncing]
      rw [ran synced, missedStep_of_syncing s syncing, loses synced]
    · rw [ran (by simp [locked]), missedStep_of_locked s locked few]
      rfl
    · rw [ran (by simp [locked]), missedStep_of_lost s locked third,
        changeTimeBase_of_change s (by simp [show s.timeBase.sync = .locked from locked]) (by rfl)]
      rfl
    · rw [ran (by simp [holdover]), missedStep_of_holdover s holdover few]
      rfl
    · have synced : b.sync ≠ .unsynced := by simp [holdover]
      rw [ran synced, missedStep_of_end s holdover many, loses synced]

end Sys2Proof.Machine
end

section
/-! The motion intake: how a report is judged, the steps of an accepted one, and the freshness deadline (R132 to R143). -/

namespace Sys2Proof.Machine

variable (s : State)

/-! ### The form and the age of a report (R132, R133) -/

theorem parseReport_of_malformed {payload : List Byte}
    (bad : ¬ (3 ≤ payload.length ∧
      ((byteAt payload 2).getLsbD 0 = true ∨ (byteAt payload 2).getLsbD 1 = true) ∧
      payload.length = 3 + 2 * (((byteAt payload 2).getLsbD 0).toNat + ((byteAt payload 2).getLsbD 1).toNat))) :
    parseReport payload = none := by
  refine if_pos ?_
  refine Decidable.byContradiction fun good => ?_
  simp only [not_or, Decidable.not_and_iff_not_or_not, Nat.not_lt, Bool.not_eq_false, Decidable.not_not] at good
  exact bad good

theorem parseReport_of_formed {payload : List Byte}
    (formed : 3 ≤ payload.length ∧
      ((byteAt payload 2).getLsbD 0 = true ∨ (byteAt payload 2).getLsbD 1 = true) ∧
      payload.length = 3 + 2 * (((byteAt payload 2).getLsbD 0).toNat + ((byteAt payload 2).getLsbD 1).toNat)) :
    parseReport payload =
      some
        { frame := halfAt payload 0
          yaw := if (byteAt payload 2).getLsbD 0 then some (saturate 30000 (halfAt payload 3)) else none
          roll :=
            if (byteAt payload 2).getLsbD 1 then
              some (saturate 6000 (halfAt payload (if (byteAt payload 2).getLsbD 0 then 5 else 3)))
            else none } := by
  refine if_neg ?_
  simpa only [not_or, Decidable.not_and_iff_not_or_not, Nat.not_lt, Bool.not_eq_false, Decidable.not_not] using formed

theorem ageing_of_aged {t : TimeBase} (frame : Half) (aged : t.aligned = true ∧ (t.sync = .locked ∨ t.sync = .holdover)) :
    ageing t frame =
      if (t.frameCount - frame).toNat ≤ 2 then .aged (t.frameCount - frame).toNat
      else if (t.frameCount - frame).toNat ≤ 32767 then .late else .future := if_pos aged

theorem ageing_of_unaged {t : TimeBase} (frame : Half)
    (unaged : ¬ (t.aligned = true ∧ (t.sync = .locked ∨ t.sync = .holdover))) : ageing t frame = .unaged := if_neg unaged

/-! ### A report as it is taken (R134) -/

theorem takeRoll_ite (kind : RollKind) (b : Bool) (v : Int) :
    takeRoll kind (if b then some v else none) s = if b then camberStep v (freshnessStep kind s) else s := by
  cases b <;> rfl

theorem takeYaw_ite (b : Bool) (v : Int) : takeYaw (if b then some v else none) s = if b then yawCheck v s else s := by
  cases b <;> rfl

theorem takeMotion_of_malformed {payload : List Byte} (bad : parseReport payload = none) :
    takeMotion payload s = deliver .motionReport 16 s := by
  have kinds : reportKinds false false false false true = 16 := by decide
  rw [takeMotion, bad, kinds]

theorem takeMotion_of_aged {payload : List Byte} {r : Report} {age : Nat} (formed : parseReport payload = some r)
    (aged : ageing s.timeBase r.frame = .aged age) :
    takeMotion payload s = takeAccepted .aged r (deliverAge age (deliver .motionReport 1 s)) := by
  have kinds : reportKinds true false false false false = 1 := by decide
  rw [takeMotion, formed]
  dsimp only
  rw [aged, kinds]

theorem takeMotion_of_unaged {payload : List Byte} {r : Report} (formed : parseReport payload = some r)
    (unaged : ageing s.timeBase r.frame = .unaged) :
    takeMotion payload s = takeAccepted .unaged r (deliver .motionReport 2 s) := by
  have kinds : reportKinds false true false false false = 2 := by decide
  rw [takeMotion, formed]
  dsimp only
  rw [unaged, kinds]

theorem takeMotion_of_late {payload : List Byte} {r : Report} (formed : parseReport payload = some r)
    (late : ageing s.timeBase r.frame = .late) : takeMotion payload s = deliver .motionReport 4 s := by
  have kinds : reportKinds false false true false false = 4 := by decide
  rw [takeMotion, formed]
  dsimp only
  rw [late, kinds]

theorem takeMotion_of_future {payload : List Byte} {r : Report} (formed : parseReport payload = some r)
    (future : ageing s.timeBase r.frame = .future) : takeMotion payload s = deliver .motionReport 8 s := by
  have kinds : reportKinds false false false true false = 8 := by decide
  rw [takeMotion, formed]
  dsimp only
  rw [future, kinds]

/-- Settles O50: how a motion report is judged and taken. -/
theorem motionReports : Obligations.MotionReports := by
  unfold Obligations.MotionReports
  intro payload s h flags yawIn rollIn formed age aged yaw roll taken
  rw [exec_motion_of_takesAtOnce h]
  refine ⟨fun bad => ?_, fun good timed young => ?_, fun good timed old late => ?_, fun good timed future => ?_,
    fun good untimed => ?_⟩
  · rw [takeMotion_of_malformed s (parseReport_of_malformed bad)]
  · have judged : ageing s.timeBase (halfAt payload 0) = .aged age := by rw [ageing_of_aged _ timed]; exact if_pos young
    rw [takeMotion_of_aged s (parseReport_of_formed good) judged]
    simp only [takeAccepted, takeRoll_ite, takeYaw_ite]
    rfl
  · have judged : ageing s.timeBase (halfAt payload 0) = .late := by
      rw [ageing_of_aged _ timed]
      exact (if_neg (show ¬ age ≤ 2 by omega)).trans (if_pos late)
    rw [takeMotion_of_late s (parseReport_of_formed good) judged]
  · have judged : ageing s.timeBase (halfAt payload 0) = .future := by
      rw [ageing_of_aged _ timed]
      exact (if_neg (show ¬ age ≤ 2 by omega)).trans (if_neg (show ¬ age ≤ 32767 by omega))
    rw [takeMotion_of_future s (parseReport_of_formed good) judged]
  · rw [takeMotion_of_unaged s (parseReport_of_formed good) (ageing_of_unaged _ untimed)]
    simp only [takeAccepted, takeRoll_ite, takeYaw_ite]
    rfl

/-! ### The steps of an accepted report (R136, R138, R139, R141 to R143) -/

theorem changeIntake_of_change {i : Intake} (changes : qualityOf i ≠ quality s) :
    changeIntake i s = deliverDegraded (qualityOf i) { s with intake := i } := if_neg changes

theorem changeYawSlip_of_same {v : Bool} (same : s.intake.yawSlip = v) : changeYawSlip v s = s := if_pos same

theorem changeYawSlip_of_ne {v : Bool} (changes : s.intake.yawSlip ≠ v) :
    changeYawSlip v s = deliverSlipYaw v { s with intake := { s.intake with yawSlip := v } } := if_neg changes

/-- The quality after a roll (R135). -/
theorem qualityOf_roll (i : Intake) (kind : RollKind) (t : Time) :
    qualityOf { i with latestRoll := some kind, deadline := some t } = if kind = .aged then .fresh else .unaged := by
  cases kind <;> rfl

theorem camberStep_of_angle (roll : Int) {a : Int} (present : angle s .tilt = some a) :
    camberStep roll s =
      { s with
        intake := { s.intake with
          cEst := clampSym (par s).camberLimit (s.intake.cEst + roundDiv (roll - a - s.intake.cEst) 8) } } := by
  rw [camberStep, present]
  rfl

/-- The yaw check is made with quality FRESH, a known speed of at least V_FREE, and STEER HOMED (R141). -/
theorem yawCheck_of_checked (yaw : Int) {v : Nat} (fresh : quality s = .fresh) (known : selectedSpeed s = some v)
    (fast : (par s).vFree ≤ v) (homed : s.channels.steer.state = .homed) :
    yawCheck yaw s =
      yawVerdict (decide ((par s).yawTol < (yaw - kinematicYaw v
        (angleOfCount s.channels.steer.count (par s).cprSteer) (par s).wheelbase).natAbs)) s := by
  have present : angle s .steer = some (angleOfCount s.channels.steer.count (par s).cprSteer) :=
    angle_of_homed s homed
  rw [yawCheck, known, present]
  exact if_pos ⟨fresh, fast, homed⟩

theorem yawCheck_of_unchecked (yaw : Int)
    (unfit : quality s ≠ .fresh ∨ selectedSpeed s = none ∨ (selectedSpeed s).getD 0 < (par s).vFree ∨
      s.channels.steer.state ≠ .homed) : yawCheck yaw s = s := by
  unfold yawCheck
  split
  · next v a known _ =>
    refine if_neg fun fit => ?_
    obtain ⟨fresh, fast, homed⟩ := fit
    obtain stale | unknown | slow | unhomed := unfit
    · exact stale fresh
    · rw [unknown] at known
      contradiction
    · rw [known] at slow
      exact absurd fast (Nat.not_le.mpr slow)
    · exact unhomed homed
  · rfl

/-- A yaw that misses adds to the run of misses, and the third in a row sets yaw slip (R142, R143). -/
theorem yawVerdict_missed :
    yawVerdict true s =
      if 2 ≤ s.intake.mismatchRun then
        changeYawSlip true
          { s with intake := { s.intake with mismatchRun := min 3 (s.intake.mismatchRun + 1), matchRun := 0 } }
      else { s with intake := { s.intake with mismatchRun := min 3 (s.intake.mismatchRun + 1), matchRun := 0 } } := by
  have third : min 3 (s.intake.mismatchRun + 1) = 3 ↔ 2 ≤ s.intake.mismatchRun := by omega
  unfold yawVerdict
  dsimp only
  rw [if_pos rfl]
  simp only [third]

/-- A yaw that agrees adds to the run of matches, and the third in a row clears yaw slip (R142, R143). -/
theorem yawVerdict_matched :
    yawVerdict false s =
      if 2 ≤ s.intake.matchRun then
        changeYawSlip false
          { s with intake := { s.intake with matchRun := min 3 (s.intake.matchRun + 1), mismatchRun := 0 } }
      else { s with intake := { s.intake with matchRun := min 3 (s.intake.matchRun + 1), mismatchRun := 0 } } := by
  have third : min 3 (s.intake.matchRun + 1) = 3 ↔ 2 ≤ s.intake.matchRun := by omega
  unfold yawVerdict
  dsimp only
  rw [if_neg Bool.false_ne_true]
  simp only [third]

/-- Settles O51: the freshness, camber and yaw steps. -/
theorem inertialSteps : Obligations.InertialSteps := by
  unfold Obligations.InertialSteps
  intro s
  refine ⟨fun kind => ?_, fun roll absent => ?_, fun roll a present => camberStep_of_angle s roll present,
    fun yaw unfit => yawCheck_of_unchecked s yaw unfit, fun yaw v fresh known fast homed => ?_⟩
  · intro i q
    have quality_ : qualityOf i = q := qualityOf_roll s.intake kind (after (now s) 20000)
    rw [freshnessStep, ← quality_]
    rfl
  · rw [camberStep, absent]
  · intro kinematic missed matched
    rw [yawCheck_of_checked s yaw fresh known fast homed]
    refine ⟨fun far => ?_, fun near => ?_⟩
    · have verdict_ : decide ((par s).yawTol < (yaw - kinematic).natAbs) = true := decide_eq_true far
      refine ⟨fun stays => ?_, fun long clear => ?_⟩
      · refine (congrArg (yawVerdict · s) verdict_).trans ((yawVerdict_missed s).trans ?_)
        split
        · next long => exact changeYawSlip_of_same missed (stays.resolve_left (Nat.not_lt.mpr long))
        · rfl
      · refine (congrArg (yawVerdict · s) verdict_).trans ((yawVerdict_missed s).trans ?_)
        rw [if_pos long]
        exact changeYawSlip_of_ne missed (by simp [missed, clear])
    · have verdict_ : decide ((par s).yawTol < (yaw - kinematic).natAbs) = false := decide_eq_false (Nat.not_lt.mpr near)
      refine ⟨fun stays => ?_, fun long set => ?_⟩
      · refine (congrArg (yawVerdict · s) verdict_).trans ((yawVerdict_matched s).trans ?_)
        split
        · next long => exact changeYawSlip_of_same matched (stays.resolve_left (Nat.not_lt.mpr long))
        · rfl
      · refine (congrArg (yawVerdict · s) verdict_).trans ((yawVerdict_matched s).trans ?_)
        rw [if_pos long]
        exact changeYawSlip_of_ne matched (by simp [matched, set])

/-! ### The freshness deadline (R137) -/

/-- Quality is STALE exactly without a deadline (R135). -/
theorem quality_of_held {t : Time} (held : s.intake.deadline = some t) : quality s ≠ .stale := by
  rw [quality_of_deadline s (by rw [held]; rfl)]
  split <;> decide

theorem loseFreshness_eq {t : Time} (held : s.intake.deadline = some t) :
    loseFreshness s =
      changeYawSlip false
        (deliverDegraded .stale
          { s with intake := { s.intake with deadline := none, mismatchRun := 0, matchRun := 0 } }) := by
  have changes : qualityOf { s.intake with deadline := none, mismatchRun := 0, matchRun := 0 } ≠ quality s :=
    (quality_of_held s held).symm
  unfold loseFreshness
  dsimp only
  rw [changeIntake_of_change s changes]
  rfl

/-- Settles O52: the expiry of the freshness deadline. -/
theorem freshnessDeadline : Obligations.FreshnessDeadline := by
  unfold Obligations.FreshnessDeadline
  intro s expired stale
  have due : deadlineDue s = true := decide_eq_true expired
  have intake : stale.intake.yawSlip = s.intake.yawSlip := by simp [stale, deliverDegraded]
  simp only [exec_freshnessDeadlineExpiry, execFreshnessDeadlineExpiry]
  rw [if_pos due, loseFreshness_eq s expired]
  refine ⟨fun clear => ?_, fun set => ?_⟩
  · exact congrArg _ (changeYawSlip_of_same stale (intake.trans clear))
  · exact congrArg _ (changeYawSlip_of_ne stale (by rw [intake, set]; decide))

end Sys2Proof.Machine
end

section
/-! The bridge drives and the brake: PWM boundaries and cuts, the position loop, and the brake contact, timer and commands (R149
to R168). -/

namespace Sys2Proof.Machine

variable (s : State)

/-! ### Cuts and overload (R158 to R160) -/

/-- A cut of a period: its record and its DRIVE_CUT (R158). -/
def cutState (d : DriveId) (x : Drive) (s : State) : State :=
  deliver .driveCut (driveKind d) (setDrive d (cutRecord x) s)

@[simp] theorem getDrive_cutState (d : DriveId) (x : Drive) : getDrive (cutState d x s) d = cutRecord x := by
  rw [cutState, getDrive_deliver, getDrive_setDrive]

theorem cutPeriod_setDrive (d : DriveId) {x : Drive} (whole : x.cutFlag = false) :
    cutPeriod d (setDrive d x s) = overloadTest d (cutState d x s) := by
  rw [cutPeriod_of_not _ d (by rw [getDrive_setDrive]; exact whole), getDrive_setDrive, setDrive_setDrive]
  rfl

/-- A cut before the 400th in a row (R158). -/
theorem cutPeriod_of_few (d : DriveId) {x : Drive} (whole : x.cutFlag = false) (few : x.cutRun < 399) :
    cutPeriod d (setDrive d x s) = cutState d x s := by
  rw [cutPeriod_setDrive s d whole, overloadTest_of_lt]
  rw [getDrive_cutState]
  exact Nat.succ_lt_succ few

/-- The 400th cut in a row is an overload (R159, R160). -/
theorem cutPeriod_of_many (d : DriveId) {x : Drive} (whole : x.cutFlag = false) (many : 399 ≤ x.cutRun) :
    cutPeriod d (setDrive d x s) =
      faultReport (.drive d) .overload x.active
        (endSaturation d (setDrive d (faultedDrive (cutRecord x)) (cutState d x s))) := by
  rw [cutPeriod_setDrive s d whole, overloadTest_of_le, faultDrive]
  · rw [getDrive_cutState]
    rfl
  · rw [getDrive_cutState]
    exact Nat.succ_le_succ many

theorem driveBoundary_of_quiet (d : DriveId) (line : Bool) (quiet : line = false ∨ (getDrive s d).shadow = 0) :
    driveBoundary d line s = setDrive d (boundaryRecord (getDrive s d)) s := by
  refine if_neg ?_
  obtain low | still := quiet
  · simp [low]
  · simp [still]

theorem driveBoundary_of_line (d : DriveId) (rises : (getDrive s d).shadow ≠ 0) :
    driveBoundary d true s = cutPeriod d (setDrive d (boundaryRecord (getDrive s d)) s) := if_pos (by simp [rises])

/-- Settles O53: PWM boundaries, cuts and overload. -/
theorem pwmBoundaryAndCuts : Obligations.PwmBoundaryAndCuts := by
  unfold Obligations.PwmBoundaryAndCuts
  refine ⟨fun toc soc s grid new => ?_, fun d s => ?_⟩
  · have due : boundaryDue s = true := decide_eq_true ⟨grid, new⟩
    simp only [exec_pwmBoundary, execPwmBoundary]
    rw [if_pos due]
    rfl
  · intro r begun cut failed
    have own : setDrive d r s = s := setDrive_getDrive d s
    have high (whole : r.cutFlag = false)
        (on : elapsed s.drives.periodStart (now s) * 20 < r.active.natAbs ∨ 1000 ≤ r.active.natAbs) :
        exec (.overcurrentCut d) s = .next (cutPeriod d (setDrive d r s)) := by
      have out : pwmHigh s d = true := by
        rw [pwmHigh, show (getDrive s d).cutFlag = false from whole]
        simpa using on
      simp only [exec_overcurrentCut, execOvercurrentCut]
      rw [if_pos out, own]
    refine ⟨fun line quiet => driveBoundary_of_quiet s d line quiet, fun rises few => ?_, fun rises many => ?_,
      fun whole on => ⟨fun few => ?_, fun many => ?_⟩, fun low => ?_⟩
    · exact (driveBoundary_of_line s d rises).trans (cutPeriod_of_few s d (x := begun) rfl few)
    · exact (driveBoundary_of_line s d rises).trans (cutPeriod_of_many s d (x := begun) rfl many)
    · exact (high whole on).trans (congrArg _ (cutPeriod_of_few s d (x := r) whole few))
    · exact (high whole on).trans (congrArg _ (cutPeriod_of_many s d (x := r) whole many))
    · have out : ¬ pwmHigh s d = true := by
        rw [pwmHigh]
        obtain cutAlready | ⟨late, part⟩ := low
        · simp [show (getDrive s d).cutFlag = true from cutAlready]
        · simp [Nat.not_lt.mpr (show (getDrive s d).active.natAbs ≤ _ from late),
            Nat.not_le.mpr (show (getDrive s d).active.natAbs < 1000 from part)]
      simp only [exec_overcurrentCut, execOvercurrentCut]
      rw [if_neg out]

/-! ### The position loop (R151 to R156) -/

theorem driveLoop_of_idle (d : DriveId) (idle : (getDrive s d).mode = .off ∨ (getDrive s d).mode = .fault) :
    driveLoop d s = s := by
  unfold driveLoop
  obtain mode | mode := idle <;> rw [mode]

theorem driveLoop_of_creep (d : DriveId) (creep : (getDrive s d).mode = .creep) :
    driveLoop d s = setDrive d { getDrive s d with shadow := creepDuty s d } s := by
  unfold driveLoop
  rw [creep]

theorem driveLoop_of_absent (d : DriveId) (loops : (getDrive s d).mode = .run ∨ (getDrive s d).mode = .hold)
    (absent : angle s (driveChannel d) = none) : driveLoop d s = absentAngleStep d s := by
  unfold driveLoop
  obtain mode | mode := loops <;> rw [mode, absent]

theorem driveLoop_of_angle (d : DriveId) {a : Int} (loops : (getDrive s d).mode = .run ∨ (getDrive s d).mode = .hold)
    (present : angle s (driveChannel d) = some a) : driveLoop d s = loopComputation d a s := by
  unfold driveLoop
  obtain mode | mode := loops <;> rw [mode, present]

/-- The creep duty by the side switch (R156). -/
theorem creepDuty_eq (d : DriveId) :
    creepDuty s d =
      if (if d = .tilt then s.pins.tside else s.pins.sside) = true then -((min (par s).creepDuty (par s).uMax : Nat) : Int)
      else ((min (par s).creepDuty (par s).uMax : Nat) : Int) := by
  have whole : ((min (par s).creepDuty (par s).uMax : Nat) : Int) = min ((par s).creepDuty : Int) (par s).uMax := by omega
  rw [whole]
  cases d <;> rfl

/-- The absent-angle step ends a saturation (R153, R154). -/
theorem absentAngleStep_eq (d : DriveId) :
    absentAngleStep d s =
      if (getDrive s d).saturated then
        deliverSaturated d false
          (setDrive d { getDrive s d with shadow := 0, ePrev := none, satStart := none, saturated := false } s)
      else setDrive d { getDrive s d with shadow := 0, ePrev := none, satStart := none } s := by
  unfold absentAngleStep endSaturation
  rw [getDrive_setDrive, setDrive_setDrive]

/-- The saturation test of a computed record (R154). -/
theorem saturationTest_setDrive (d : DriveId) (full : Bool) (r : Drive) :
    saturationTest d full (setDrive d r s) =
      if r.saturated = full then setDrive d { r with saturated := full } s
      else deliverSaturated d full (setDrive d { r with saturated := full } s) := by
  unfold saturationTest
  rw [getDrive_setDrive, setDrive_setDrive]
  split
  · next same => rw [← same]
  · rfl

theorem getDrive_saturationTest_setDrive (d : DriveId) (full : Bool) (r : Drive) :
    getDrive (saturationTest d full (setDrive d r s)) d = { r with saturated := full } := by
  rw [saturationTest_eq, getDrive_putDrive, getDrive_setDrive]

/-- The target of the loop by the mode (R147, R151). -/
theorem loopTarget_eq (d : DriveId) {target : Int}
    (follows : ((getDrive s d).mode = .run ∧ target = (if d = .tilt then s.law.lambdaT else s.law.deltaT)) ∨
      ((getDrive s d).mode = .hold ∧ (getDrive s d).holdTarget = some target)) : loopTarget s d = target := by
  unfold loopTarget
  obtain ⟨run, is⟩ | ⟨hold, held⟩ := follows
  · rw [run, is]
    cases d <;> rfl
  · rw [hold, held]
    rfl

theorem gainP_eq (p : Params) (d : DriveId) : gainP p d = if d = .tilt then p.kpTilt else p.kpSteer := by cases d <;> rfl

theorem gainD_eq (p : Params) (d : DriveId) : gainD p d = if d = .tilt then p.kdTilt else p.kdSteer := by cases d <;> rfl

theorem trackingTest_of_near (d : DriveId) {full : Bool} {e : Int} (near : full = false ∨ e.natAbs ≤ 300) :
    trackingTest d full e s = setDrive d { getDrive s d with satStart := none } s := by
  refine if_neg fun far => ?_
  obtain part | close := near
  · rw [part] at far
    exact Bool.false_ne_true far.1
  · exact absurd far.2 (Nat.not_lt.mpr close)

theorem trackingTest_of_far (d : DriveId) {e : Int} (far : 300 < e.natAbs) :
    trackingTest d true e s =
      match (getDrive s d).satStart with
      | none => setDrive d { getDrive s d with satStart := some (now s) } s
      | some t => if 250000 ≤ elapsed t (now s) then faultDrive d .tracking e s else s := if_pos ⟨rfl, far⟩

/-- Settles O54: the position loop, saturation and tracking. -/
theorem loopExpiry : Obligations.LoopExpiry := by
  unfold Obligations.LoopExpiry
  refine ⟨fun tside sside s grid new => ?_, fun d s => ?_⟩
  · have due : loopDue s = true := decide_eq_true ⟨grid, new⟩
    simp only [exec_loopExpiry, execLoopExpiry]
    rw [if_pos due]
    rfl
  · intro r
    refine ⟨driveLoop_of_idle s d, fun creep => ?_, fun loops absent => ?_, fun a target present follows => ?_⟩
    · rw [driveLoop_of_creep s d creep, creepDuty_eq]
    · rw [driveLoop_of_absent s d loops absent, absentAngleStep_eq]
    · intro e kp kd u full computed tested
      have loops : r.mode = .run ∨ r.mode = .hold := follows.imp And.left And.left
      have record : getDrive tested d = computed := by
        have written := getDrive_saturationTest_setDrive s d full { r with shadow := u, ePrev := some e }
        rw [saturationTest_setDrive] at written
        exact written
      have time : now tested = now s := by
        have written := saturationTest_setDrive s d full { r with shadow := u, ePrev := some e }
        rw [saturationTest_eq] at written
        have same := congrArg now written
        rw [now_putDrive] at same
        exact same.symm.trans (by cases d <;> rfl)
      have step : driveLoop d s = trackingTest d full e tested := by
        rw [driveLoop_of_angle s d loops present, loopComputation, loopTarget_eq s d follows]
        dsimp only
        rw [saturationTest_setDrive, gainP_eq, gainD_eq]
        rfl
      refine ⟨fun near => ?_, fun whole far => ⟨fun absent => ?_, fun t start short => ?_, fun t start long => ?_⟩⟩
      · rw [step, trackingTest_of_near tested d near, record]
      all_goals
        rw [step, whole, trackingTest_of_far tested d far, record]
        dsimp only [computed]
      · rw [absent, time]
      · rw [start]
        dsimp only
        rw [time]
        exact if_neg (Nat.not_le.mpr short)
      · rw [start]
        dsimp only
        rw [time]
        exact if_pos long

/-! ### The brake (R161 to R168) -/

/-- Settles O55: the brake contact, the brake timer and the brake commands. -/
theorem brakeContact : Obligations.BrakeContact := by
  unfold Obligations.BrakeContact
  intro s brake b failed
  have timed (expired : b.timer = some (now s)) : exec .brakeTimerExpiry s = .next (brakeTimeoutStep s) := by
    have due : brakeTimerDue s = true := decide_eq_true expired
    simp only [exec_brakeTimerExpiry, execBrakeTimerExpiry]
    rw [if_pos due]
  simp only [exec_brksRise, execBrksRise, exec_brksFall, execBrksFall]
  refine ⟨fun releasing => ?_, fun engaged => ?_, fun other => ?_, fun engaging => ?_, fun released => ?_, fun other => ?_,
    fun expired releasing => ?_, fun expired engaging => ?_, fun engages => ?_, fun other => ?_, fun releases => ?_,
    fun other => ?_⟩
  · rw [brksRiseStep, show s.drives.brake.state = .releasing from releasing]
    rfl
  · rw [brksRiseStep, show s.drives.brake.state = .engaged from engaged]
    rfl
  · rw [brksRiseStep]
    obtain state | state | state := other <;> rw [show s.drives.brake.state = _ from state] <;> rfl
  · rw [brksFallStep, show s.drives.brake.state = .engaging from engaging]
    rfl
  · rw [brksFallStep, show s.drives.brake.state = .released from released]
    rfl
  · rw [brksFallStep]
    obtain state | state | state := other <;> rw [show s.drives.brake.state = _ from state] <;> rfl
  · rw [timed expired, brakeTimeoutStep, show s.drives.brake.state = .releasing from releasing]
    rfl
  · rw [timed expired, brakeTimeoutStep, show s.drives.brake.state = .engaging from engaging]
    rfl
  · rw [commandRelease]
    obtain state | state := engages <;> rw [show s.drives.brake.state = _ from state] <;> exact startReleasing_eq s
  · rw [commandRelease]
    obtain state | state | state := other <;> rw [show s.drives.brake.state = _ from state]
  · rw [commandEngage]
    obtain state | state := releases <;> rw [show s.drives.brake.state = _ from state] <;> exact startEngaging_eq s
  · rw [commandEngage]
    obtain state | state | state := other <;> rw [show s.drives.brake.state = _ from state]

end Sys2Proof.Machine
end

section
/-! The counter unit: what an event makes of each counter, and what it posts of the counters that reach their thresholds (R172
to R181, R199). -/

namespace Sys2Proof.Machine

variable (s : State)

/-! ### An increase and its threshold test (R179, R180) -/

/-- A counter grown by n, saturating, with its threshold test (R179, R180). -/
def grownCounter (n : Nat) (c : Counter) : Counter :=
  { c with
    value := min 4294967295 (c.value + n)
    reached := c.reached ||
      decide (c.config.threshold ≠ 0 ∧ c.config.threshold ≤ min 4294967295 (c.value + n)) }

theorem increase_fst (n : Nat) (c : Counter) : (increase n c).1 = grownCounter n c := by
  unfold increase grownCounter reachesThreshold counterMax
  cases c.reached <;> simp

/-- A counter's part keeps its configuration, and its flag says that the threshold was reached by this part. -/
def Honest (take : Counter → Counter × Bool) : Prop :=
  ∀ c, (take c).1.config = c.config ∧ ((take c).2 = true ↔ c.reached = false ∧ (take c).1.reached = true)

theorem honest_increase (n : Nat) (c : Counter) :
    (increase n c).1.config = c.config ∧
      ((increase n c).2 = true ↔ c.reached = false ∧ (increase n c).1.reached = true) := by
  refine ⟨rfl, ?_⟩
  unfold increase reachesThreshold
  cases reached : c.reached <;> simp

/-- A part that leaves the threshold flag alone reports nothing. -/
theorem honest_quiet {c c' : Counter} (config : c'.config = c.config) (reached : c'.reached = c.reached) :
    (c', false).1.config = c.config ∧ ((c', false).2 = true ↔ c.reached = false ∧ (c', false).1.reached = true) := by
  refine ⟨config, ?_⟩
  rw [reached]
  cases c.reached <;> simp

theorem honest_takeOccurrence (e : CounterEvent) (kinds : Byte) : Honest (takeOccurrence e kinds) := by
  intro c
  unfold takeOccurrence
  split
  · exact honest_increase 1 c
  · exact honest_quiet rfl rfl

theorem honest_takeAge (age : Nat) : Honest (takeAge age) := by
  intro c
  unfold takeAge
  split
  · exact honest_increase age c
  · exact honest_quiet rfl rfl

theorem honest_millisecondTick (t : Time) : Honest (millisecondTick t) := fun c =>
  honest_increase 1 { c with remainder := 0, mark := some t }

theorem honest_takeConditions (old new : Conditions) (t : Time) : Honest (takeConditions old new t) := by
  intro c
  unfold takeConditions
  split
  · exact honest_quiet rfl rfl
  · split
    · unfold conditionRises
      split
      · exact honest_quiet rfl rfl
      · exact honest_increase 1 c
      · exact honest_quiet rfl rfl
      · exact honest_quiet rfl rfl
    · unfold conditionFalls
      split
      · next m _ _ =>
        dsimp only
        split
        · exact honest_increase 1 { c with remainder := c.remainder + elapsed m t - 1000, mark := none }
        · exact honest_quiet rfl rfl
      · exact honest_quiet rfl rfl

/-! ### The THRESHOLD notices of an event (R181, R199) -/

/-- The link after a counter's THRESHOLD notice is posted (R181, R199). -/
def notifyLink (t : Word32) (l : Link) (i : Fin 8) : Link :=
  selectToSend { l with thresholdSlot := some (mergeThreshold l.thresholdSlot ⟨1#8 <<< i.val, t⟩) }

/-- A counter's part reports a threshold that is to be notified (R181). -/
def notifies (take : Counter → Counter × Bool) (s : State) (i : Fin 8) : Bool :=
  (take s.counters.counters[i]).2 && (take s.counters.counters[i]).1.config.action == .notify

theorem offerTo_link_eq (take : Counter → Counter × Bool) (i : Fin 8) :
    (offerTo take s i).link = if notifies take s i then notifyLink (nowMs s) s.link i else s.link := by
  unfold offerTo notifies
  dsimp only
  split <;> rfl

/-- The counters of a list without repeats post their notices in turn. -/
theorem foldl_offerTo_link (take : Counter → Counter × Bool) (is : List (Fin 8)) (distinct : is.Nodup) :
    (is.foldl (offerTo take) s).link = (is.filter (notifies take s)).foldl (notifyLink (nowMs s)) s.link := by
  induction is generalizing s with
  | nil => rfl
  | cons i rest ih =>
    obtain ⟨fresh, distinct⟩ := List.nodup_cons.mp distinct
    have others : rest.filter (notifies take (offerTo take s i)) = rest.filter (notifies take s) := by
      refine List.filter_congr fun j mem => ?_
      have apart : i.val ≠ j.val := fun same => fresh (Fin.ext same ▸ mem)
      unfold notifies
      rw [offerTo_counters]
      simp [apart]
    have time : nowMs (offerTo take s i) = nowMs s := by simp [nowMs, now]
    rw [List.foldl_cons, ih _ distinct, others, time, offerTo_link_eq, List.filter_cons]
    split
    · rfl
    · rfl

/-- A NOTIFY counter that reaches its threshold between two states (R181). -/
def Told (s t : State) (i : Fin 8) : Prop :=
  t.counters.counters[i].config.action = .notify ∧ s.counters.counters[i].reached = false ∧
    t.counters.counters[i].reached = true

/-- An event's effect: it writes the counters alone, and posts the notices of the NOTIFY counters that reach their thresholds, in
their order (R173, R181, R199). -/
structure Counted (s t : State) : Prop where
  framed : t = beside s t
  told : ∃ tolds : List (Fin 8), tolds.Pairwise (· < ·) ∧ (∀ i, i ∈ tolds ↔ Told s t i) ∧
    t.link = tolds.foldl (notifyLink (nowMs s)) s.link

theorem foldl_offerTo_counted {take : Counter → Counter × Bool} (honest : Honest take) {is : List (Fin 8)}
    (sorted : is.Pairwise (· < ·)) : Counted s (is.foldl (offerTo take) s) where
  framed := foldl_offerTo_beside take is s s rfl
  told := by
    have distinct : is.Nodup := sorted.imp Fin.ne_of_lt
    refine ⟨is.filter (notifies take s), sorted.filter _, fun i => ?_, foldl_offerTo_link s take is distinct⟩
    obtain ⟨config, flag⟩ := honest s.counters.counters[i]
    unfold Told
    rw [List.mem_filter, foldl_offerTo_counters take is distinct, notifies, Bool.and_eq_true, beq_iff_eq, flag]
    by_cases mem : i ∈ is
    · simp only [mem, true_and]
      exact and_comm
    · rw [if_neg mem]
      refine ⟨fun h => absurd h.1 mem, fun h => ?_⟩
      rw [h.2.1] at h
      exact absurd h.2.2 Bool.false_ne_true

theorem offerAll_counted {take : Counter → Counter × Bool} (honest : Honest take) : Counted s (offerAll take s) :=
  foldl_offerTo_counted s honest (by decide)

/-- A write of the condition table before the event changes nothing of what the event posts. -/
theorem Counted.of_conditions {s : State} {new : Conditions} {t : State}
    (h : Counted { s with counters := { s.counters with conditions := new } } t) : Counted s t := ⟨h.framed, h.told⟩

theorem deliver_counted (e : CounterEvent) (kinds : Byte) : Counted s (deliver e kinds s) :=
  offerAll_counted s (honest_takeOccurrence e kinds)

theorem deliverAge_counted (age : Nat) : Counted s (deliverAge age s) := offerAll_counted s (honest_takeAge age)

theorem deliverConditions_counted (new : Conditions) : Counted s (deliverConditions new s) := by
  unfold deliverConditions
  exact Counted.of_conditions (offerAll_counted { s with counters := { s.counters with conditions := new } }
    (honest_takeConditions s.counters.conditions new (now s)))

/-! ### What is posted (R181, R199) -/

theorem notifyLink_sending {l : Link} (t : Word32) (i : Fin 8) (sending : l.transmitter.isSome = true) :
    notifyLink t l i = { l with thresholdSlot := some (mergeThreshold l.thresholdSlot ⟨1#8 <<< i.val, t⟩) } :=
  selectToSend_sending _ sending

/-- The set of one counter (R208). -/
theorem getLsbD_counterBit (i j : Fin 8) : (1#8 <<< i.val : Byte).getLsbD j.val = true ↔ j = i := by
  revert i j
  decide

/-- A merged notice has the time of the newer and the counters of both (R199). -/
theorem mergeThreshold_eq (pending : Option ThresholdNotice) (i : Fin 8) (t : Word32) :
    ∃ n : Byte, mergeThreshold pending ⟨1#8 <<< i.val, t⟩ = ⟨n, t⟩ ∧
      ∀ j : Fin 8, n.getLsbD j.val = true ↔ j = i ∨ ∃ p, pending = some p ∧ p.counters.getLsbD j.val = true := by
  cases pending with
  | none => exact ⟨_, rfl, fun j => by simpa using getLsbD_counterBit i j⟩
  | some p =>
    refine ⟨p.counters ||| 1#8 <<< i.val, rfl, fun j => ?_⟩
    rw [BitVec.getLsbD_or, Bool.or_eq_true, getLsbD_counterBit]
    simp [or_comm]

/-- While the transmitter is sending, the notices are merged into one (R199). -/
theorem foldl_notifyLink_sending (t : Word32) (tolds : List (Fin 8)) {l : Link} (sending : l.transmitter.isSome = true)
    (some_ : tolds ≠ []) :
    ∃ n : Byte, tolds.foldl (notifyLink t) l = { l with thresholdSlot := some ⟨n, t⟩ } ∧
      ∀ j : Fin 8, n.getLsbD j.val = true ↔
        j ∈ tolds ∨ ∃ p, l.thresholdSlot = some p ∧ p.counters.getLsbD j.val = true := by
  induction tolds generalizing l with
  | nil => contradiction
  | cons i rest ih =>
    obtain ⟨first, merged, bits⟩ := mergeThreshold_eq l.thresholdSlot i t
    rw [List.foldl_cons, notifyLink_sending t i sending, merged]
    cases rest with
    | nil => exact ⟨first, rfl, fun j => by simpa using bits j⟩
    | cons k more =>
      obtain ⟨n, all, members⟩ := ih (l := { l with thresholdSlot := some ⟨first, t⟩ }) sending (by simp)
      refine ⟨n, all, fun j => (members j).trans ?_⟩
      have here := bits j
      simp only [Option.some.injEq, exists_eq_left', List.mem_cons] at here ⊢
      rw [here]
      exact or_left_comm.trans or_assoc.symm

theorem notifyLink_fields (t : Word32) (l : Link) (i : Fin 8) :
    (notifyLink t l i).receiver = l.receiver ∧ (notifyLink t l i).gapTimer = l.gapTimer ∧
      (notifyLink t l i).receiveQueue = l.receiveQueue ∧ (notifyLink t l i).handover = l.handover ∧
      (notifyLink t l i).statusTimer = l.statusTimer := by
  simp [notifyLink]

theorem foldl_notifyLink_fields (t : Word32) (tolds : List (Fin 8)) (l : Link) :
    (tolds.foldl (notifyLink t) l).receiver = l.receiver ∧ (tolds.foldl (notifyLink t) l).gapTimer = l.gapTimer ∧
      (tolds.foldl (notifyLink t) l).receiveQueue = l.receiveQueue ∧
      (tolds.foldl (notifyLink t) l).handover = l.handover ∧
      (tolds.foldl (notifyLink t) l).statusTimer = l.statusTimer := by
  induction tolds generalizing l with
  | nil => exact ⟨rfl, rfl, rfl, rfl, rfl⟩
  | cons i rest ih =>
    obtain ⟨receiver, gap, queue, handover, status⟩ := ih (notifyLink t l i)
    obtain ⟨receiver', gap', queue', handover', status'⟩ := notifyLink_fields t l i
    exact ⟨receiver.trans receiver', gap.trans gap', queue.trans queue', handover.trans handover', status.trans status'⟩

/-- Two sorted lists with the same members are one. -/
theorem eq_of_sorted {xs ys : List (Fin 8)} (one : xs.Pairwise (· < ·)) (other : ys.Pairwise (· < ·))
    (same : ∀ i, i ∈ xs ↔ i ∈ ys) : xs = ys := by
  have perm : xs.Perm ys := (List.perm_ext_iff_of_nodup (one.imp Fin.ne_of_lt) (other.imp Fin.ne_of_lt)).mpr same
  exact perm.eq_of_pairwise (fun a b _ _ lt gt => absurd gt (Fin.lt_asymm lt)) one other

/-- A list of distinct members with one member is that member. -/
theorem eq_singleton_of_unique {xs : List (Fin 8)} (sorted : xs.Pairwise (· < ·)) {i : Fin 8} (mem : i ∈ xs)
    (only : ∀ j ∈ xs, j = i) : xs = [i] :=
  eq_of_sorted sorted (List.pairwise_singleton _ _) fun j => by
    rw [List.mem_singleton]
    exact ⟨only j, fun same => same ▸ mem⟩

/-! ### What one event makes of a counter (R174 to R178) -/

theorem takeOccurrence_fst (e : CounterEvent) (kinds : Byte) (c : Counter) :
    (takeOccurrence e kinds c).1 =
      if c.config.event = some e ∧ c.config.mode = .count ∧ c.config.mask &&& kinds ≠ 0 then grownCounter 1 c else c := by
  unfold takeOccurrence
  split
  · exact increase_fst 1 c
  · rfl

theorem takeAge_fst (age : Nat) (c : Counter) :
    (takeAge age c).1 =
      if c.config.event = some .reportAge ∧ c.config.mode = .accumulate then grownCounter age c else c := by
  unfold takeAge
  split
  · exact increase_fst age c
  · rfl

theorem takeConditions_of_same {old new : Conditions} (t : Time) {c : Counter}
    (same : selectedCondition c.config old = selectedCondition c.config new) : takeConditions old new t c = (c, false) :=
  if_pos same

theorem takeConditions_of_rise {old new : Conditions} (t : Time) {c : Counter}
    (was : selectedCondition c.config old = false) (is : selectedCondition c.config new = true) :
    takeConditions old new t c = conditionRises t c := by
  rw [takeConditions, if_neg (by rw [was, is]; decide), if_pos is]

theorem takeConditions_of_fall {old new : Conditions} (t : Time) {c : Counter}
    (was : selectedCondition c.config old = true) (is : selectedCondition c.config new = false) :
    takeConditions old new t c = conditionFalls t c := by
  rw [takeConditions, if_neg (by rw [was, is]; decide), if_neg (by rw [is]; decide)]

theorem conditionFalls_of_edge (t : Time) {c : Counter} (edge : c.config.mode = .edge) : conditionFalls t c = (c, false) := by
  rw [conditionFalls, edge]

theorem conditionFalls_of_duration (t : Time) {c : Counter} {m : Time} (duration : c.config.mode = .duration)
    (timing : c.mark = some m) :
    conditionFalls t c =
      if 1000 ≤ c.remainder + elapsed m t then
        increase 1 { c with remainder := c.remainder + elapsed m t - 1000, mark := none }
      else ({ c with remainder := c.remainder + elapsed m t, mark := none }, false) := by
  rw [conditionFalls, duration, timing]

theorem millisecondDue_of_mark {i : Fin 8} {m : Time} (timing : s.counters.counters[i].mark = some m)
    (expired : now s = after m (1000 - s.counters.counters[i].remainder)) : millisecondDue s i = true := by
  refine decide_eq_true ?_
  rw [millisecondTimer, timing, expired]
  rfl

theorem deliverAge_counters (age : Nat) (i : Fin 8) :
    (deliverAge age s).counters.counters[i] = (takeAge age s.counters.counters[i]).1 := by
  rw [deliverAge, offerAll_counters]

theorem deliver_conditions (e : CounterEvent) (kinds : Byte) :
    (deliver e kinds s).counters.conditions = s.counters.conditions := by
  rw [deliver, offerAll_conditions]

theorem deliverAge_conditions (age : Nat) : (deliverAge age s).counters.conditions = s.counters.conditions := by
  rw [deliverAge, offerAll_conditions]

/-- Settles O57: what one event makes of each counter, and what it posts. -/
theorem counting : Obligations.Counting := by
  unfold Obligations.Counting
  intro s grown told notify framed
  have frames {t : State} (h : Counted s t) : framed t := by
    obtain ⟨tolds, sorted, members, link⟩ := h.told
    obtain ⟨receiver, gap, queue, handover, status⟩ := foldl_notifyLink_fields (nowMs s) tolds s.link
    rw [← link] at receiver gap queue handover status
    refine ⟨h.framed, fun none_ => ?_, fun i is only => ?_, fun tolds' sorted' members' => ?_, fun sending exists_ => ?_,
      receiver, gap, queue, handover, status⟩
    · have empty : tolds = [] := List.eq_nil_iff_forall_not_mem.mpr fun i mem => none_ i ((members i).mp mem)
      rw [link, empty]
      rfl
    · have single := eq_singleton_of_unique sorted ((members i).mpr is) fun j mem => only j ((members j).mp mem)
      rw [link, single]
      rfl
    · have same := eq_of_sorted sorted' sorted fun i => (members' i).trans (members i).symm
      rw [link, same]
      rfl
    · obtain ⟨i, is⟩ := exists_
      have some_ : tolds ≠ [] := List.ne_nil_of_mem ((members i).mpr is)
      obtain ⟨n, merged, bits⟩ := foldl_notifyLink_sending (nowMs s) tolds sending some_
      exact ⟨n, link.trans merged, fun j => (bits j).trans (or_congr_left (members j))⟩
  refine ⟨fun e kinds => ⟨frames (deliver_counted s e kinds), deliver_conditions s e kinds, fun i => ?_⟩,
    fun age => ⟨frames (deliverAge_counted s age), deliverAge_conditions s age, fun i => ?_⟩,
    fun new => ⟨frames (deliverConditions_counted s new), deliverConditions_conditions new s,
      fun i => ?_⟩, fun i m timing expired => ?_⟩
  · exact (deliver_counters e kinds s i).trans (takeOccurrence_fst e kinds _)
  · exact (deliverAge_counters s age i).trans (takeAge_fst age _)
  · intro c was is t
    have taken : t = (takeConditions s.counters.conditions new (now s) c).1 := deliverConditions_counters new s i
    refine ⟨fun same => ?_, fun low high duration => ?_, fun low high edge => ?_, fun high low edge => ?_,
      fun m high low duration timing => ?_⟩
    · rw [taken, takeConditions_of_same _ same]
    · rw [taken, takeConditions_of_rise _ low high, conditionRises, duration]
    · rw [taken, takeConditions_of_rise _ low high, conditionRises, edge]
      exact increase_fst 1 c
    · rw [taken, takeConditions_of_fall _ high low, conditionFalls_of_edge _ edge]
    · rw [taken, takeConditions_of_fall _ high low, conditionFalls_of_duration _ duration timing]
      refine ⟨fun short => ?_, fun whole => ?_⟩
      · rw [if_neg (Nat.not_le.mpr short)]
      · rw [if_pos whole]
        exact increase_fst 1 _
  · have due := millisecondDue_of_mark s timing expired
    have counters := offerTo_counters (millisecondTick (now s)) s i
    refine ⟨offerTo (millisecondTick (now s)) s i, ?_, ?_, ?_, ?_, fun j other => ?_⟩
    · simp only [exec_millisecondTimerExpiry, execMillisecondTimerExpiry]
      rw [if_pos due]
    · exact frames (foldl_offerTo_counted s (honest_millisecondTick (now s)) (List.pairwise_singleton _ i))
    · rw [counters]
    · rw [counters]
      simp only [Fin.getElem_fin, Vector.getElem_set_self]
      exact increase_fst 1 _
    · have apart : i.val ≠ j.val := fun same => other (Fin.ext same.symm)
      rw [counters]
      simp [apart]

end Sys2Proof.Machine
end

section
/-! PARAM_SET and MAP_SET: what is held, and which effects of a write are passed on (R210 to R213, R215). -/

namespace Sys2Proof.Machine

variable (s : State)

/-! ### What a write changes (R211, R212) -/

theorem getParam_crossConstrain (c : Params) {q : Param} (free : q ≠ .vFree) (park : q ≠ .vPark) :
    getParam (crossConstrain c) q = getParam c q := by
  cases q with
  | vFree | vPark => contradiction
  | _ => rfl

/-- A write changes its own parameter and the two cross-constrained ones alone (R211, R212). -/
theorem getParam_writeParam (c : Params) {p q : Param} (v : Nat) (other : q ≠ p) (free : q ≠ .vFree) (park : q ≠ .vPark) :
    getParam (writeParam c p v) q = getParam c q := by
  rw [writeParam, getParam_crossConstrain _ free park, getParam_setParam, if_neg other]

/-- The parameters whose change has an effect in another block (R213). -/
def effectParams : List Param :=
  [.steerLimit, .tiltLimit, .camberLimit, .uMax, .reportPeriod, .framePeriod, .strobeWindow, .cprTilt, .cprSteer, .cprBar]

theorem not_constrained_of_effect {q : Param} (effect : q ∈ effectParams) : q ≠ .vFree ∧ q ≠ .vPark := by
  constructor
  · rintro rfl
    exact absurd effect (by decide)
  · rintro rfl
    exact absurd effect (by decide)

/-- Of the parameters with effects a write changes at most its own (R213). -/
theorem changed_of_write (c : Params) (p : Param) (v : Nat) {q : Param} (effect : q ∈ effectParams) :
    decide (getParam c q ≠ getParam (writeParam c p v) q) =
      decide (q = p ∧ getParam (writeParam c p v) p ≠ getParam c p) := by
  obtain ⟨free, park⟩ := not_constrained_of_effect effect
  by_cases own : q = p
  · subst own
    simp [eq_comm]
  · simp [getParam_writeParam c v own free park, own]

/-- The effects whose equal write counts as a change are taken when their parameter is the one written (R100, R131, R200). -/
theorem effectTaken_of_write (c : Params) (p : Param) (v : Nat) {q : Param} (effect : q ∈ effectParams) :
    effectTaken c (writeParam c p v) (some p) q = decide (q = p) := by
  rw [effectTaken, changed_of_write c p v effect]
  by_cases own : q = p
  · simp [own]
  · simp [own, Ne.symm own]

/-- The effects of the one parameter that is written; those of a limit are taken when it differs (R213). -/
def ownEffect (p : Param) (differs : Bool) : State → State :=
  match p with
  | .steerLimit => fun t => effectIf differs (rangeCheck .steer) (effectIf differs clampDelta t)
  | .tiltLimit => fun t => effectIf differs (rangeCheck .tilt) (effectIf differs clampLambda t)
  | .camberLimit => effectIf differs camberLimitChanged
  | .uMax => effectIf differs uMaxChanged
  | .reportPeriod => reportPeriodChanged
  | .framePeriod | .strobeWindow => gridParameterChanged
  | .cprTilt => unhomeChannel .tilt
  | .cprSteer => unhomeChannel .steer
  | .cprBar => unhomeChannel .bar
  | _ => id

/-- A parameter with no effect in another block (R213). -/
theorem ownEffect_of_none {p : Param} (plain : p ∉ effectParams) (differs : Bool) : ownEffect p differs s = s := by
  cases p with
  | steerLimit | tiltLimit | camberLimit | uMax | reportPeriod | framePeriod | strobeWindow | cprTilt | cprSteer | cprBar =>
    exact absurd (by decide) plain
  | _ => rfl

/-- What a write passes on: the effects of its own parameter (R213). -/
theorem passChanges_of_write (c : Params) (p : Param) (v : Nat) :
    passChanges c (writeParam c p v) (some p) s =
      ownEffect p (decide (getParam (writeParam c p v) p ≠ getParam c p)) s := by
  unfold passChanges
  dsimp only
  rw [changed_of_write c p v (q := .steerLimit) (by decide), changed_of_write c p v (q := .tiltLimit) (by decide),
    changed_of_write c p v (q := .camberLimit) (by decide), changed_of_write c p v (q := .uMax) (by decide),
    effectTaken_of_write c p v (q := .framePeriod) (by decide),
    effectTaken_of_write c p v (q := .strobeWindow) (by decide),
    effectTaken_of_write c p v (q := .reportPeriod) (by decide), effectTaken_of_write c p v (q := .cprTilt) (by decide),
    effectTaken_of_write c p v (q := .cprSteer) (by decide), effectTaken_of_write c p v (q := .cprBar) (by decide)]
  generalize getParam (writeParam c p v) p = held
  cases p <;> simp [effectIf, ownEffect]

/-- PARAM_SET in a regime that allows it (R211). -/
theorem takeParamSet_of_allowed {p : Param} {id : Byte} {v : Half} {c : Params}
    (writes : c = writeParam (par s) p v.toNat) (named : id.toNat = (paramRow p).id)
    (started : s.regime.regime ≠ .init) (allowed : s.regime.regime = .parked ∨ (paramRow p).parkedOnly = false) :
    takeParamSet id v s =
      accept (.paramSet id (getParam c p) (decide (getParam c p ≠ v.toNat)))
        (ownEffect p (decide (getParam c p ≠ getParam (par s) p))
          (setWorking { s.store.working with params := c } s)) := by
  subst writes
  have allows : ¬ ((paramRow p).parkedOnly = true ∧ s.regime.regime ≠ .parked) := by
    rintro ⟨only, elsewhere⟩
    obtain parked | free := allowed
    · exact elsewhere parked
    · rw [free] at only
      contradiction
  rw [takeParamSet, if_neg started, named, paramOfId_paramRow]
  dsimp only
  rw [if_neg allows, ← passChanges_of_write]
  rfl

theorem takeParamSet_of_init (id : Byte) (v : Half) (init : s.regime.regime = .init) :
    takeParamSet id v s = refuse .paramSet .wrongRegime s := if_pos init

theorem takeParamSet_of_unknown {id : Byte} (v : Half) (started : s.regime.regime ≠ .init)
    (outside : id.toNat = 0 ∨ 32 < id.toNat) : takeParamSet id v s = refuse .paramSet .badValue s := by
  rw [takeParamSet, if_neg started, paramOfId_of_out_of_range outside]

theorem takeParamSet_of_elsewhere {p : Param} {id : Byte} (v : Half) (named : id.toNat = (paramRow p).id)
    (started : s.regime.regime ≠ .init) (elsewhere : s.regime.regime ≠ .parked) (only : (paramRow p).parkedOnly = true) :
    takeParamSet id v s = refuse .paramSet .wrongRegime s := by
  rw [takeParamSet, if_neg started, named, paramOfId_paramRow]
  exact if_pos ⟨only, elsewhere⟩

/-! ### The effects that are always passed on (R131) -/

theorem gridParameterChanged_of_unsynced (unsynced : s.timeBase.sync = .unsynced) : gridParameterChanged s = s :=
  if_pos unsynced

theorem gridParameterChanged_of_synced (synced : s.timeBase.sync ≠ .unsynced) :
    gridParameterChanged s =
      postTimebaseNotice ⟨.unsynced, s.timeBase.sync, s.timeBase.frameCount, false, msOf (now s)⟩
        { s with timeBase :=
            { s.timeBase with sync := .unsynced, gridStart := none, aligned := false, goodRun := 0, missedRun := 0 } } :=
  (if_neg synced).trans (enterUnsynced_of_synced s synced)

/-! ### The order of the map (R215) -/

theorem toList_eq_elements (m : Vector MapPoint 9) :
    m.toList = [m[0], m[1], m[2], m[3], m[4], m[5], m[6], m[7], m[8]] :=
  List.ext_getElem (by simp) fun i _ inside => by
    match i, inside with
    | 0, _ | 1, _ | 2, _ | 3, _ | 4, _ | 5, _ | 6, _ | 7, _ | 8, _ => simp
    | n + 9, beyond => exact absurd beyond (Nat.not_lt.mpr (Nat.le_add_left 9 n))

theorem mapOrdered_iff (m : Vector MapPoint 9) :
    mapOrdered m = true ↔ m[0].speed = 0 ∧ ∀ i : Fin 8, m[i.val].speed < m[i.val + 1].speed := by
  rw [mapOrdered, toList_eq_elements]
  simp [speedsRise, Fin.forall_fin_succ]

theorem takeMapSet_of_init (point : Byte) (speed kc kcs lmax : Half) (init : s.regime.regime = .init) :
    takeMapSet point speed kc kcs lmax s = refuse .mapSet .wrongRegime s := if_pos init

theorem takeMapSet_of_outside {point : Byte} (speed kc kcs lmax : Half) (started : s.regime.regime ≠ .init)
    (outside : 9 ≤ point.toNat) : takeMapSet point speed kc kcs lmax s = refuse .mapSet .badValue s :=
  (if_neg started).trans (dif_neg (Nat.not_lt.mpr outside))

theorem takeMapSet_of_inside {point : Byte} (speed kc kcs lmax : Half) (started : s.regime.regime ≠ .init)
    (inside : point.toNat < 9) :
    takeMapSet point speed kc kcs lmax s =
      let given : MapPoint := ⟨speed.toNat, kc.toNat, kcs.toNat, lmax.toNat⟩
      let m := s.store.working.map.set point.toNat (clampPoint given)
      if mapOrdered m then
        accept (.mapSet point (clampPoint given) (clampMask given)) (setWorking { s.store.working with map := m } s)
      else refuse .mapSet .order s :=
  (if_neg started).trans (dif_pos inside)

/-! ### PARAM_SET and MAP_SET -/

/-- Settles O58: the checks in order, the held value, and the effect that the written parameter owns. -/
theorem calibrationWrites : Obligations.CalibrationWrites := by
  unfold Obligations.CalibrationWrites
  intro s takes
  refine ⟨fun id v init => ?_, fun id v started outside => ?_, fun p id v named started =>
    ⟨fun elsewhere only => ?_, fun allowed => ?_⟩, fun point speed kc kcs lmax init => ?_,
    fun point speed kc kcs lmax started outside => ?_, fun point speed kc kcs lmax inside started => ?_⟩
  · rw [exec_paramSet_of_takesAtOnce takes, takeParamSet_of_init s id v init]
  · rw [exec_paramSet_of_takesAtOnce takes, takeParamSet_of_unknown s v started outside]
  · rw [exec_paramSet_of_takesAtOnce takes, takeParamSet_of_elsewhere s v named started elsewhere only]
  · intro clamped w c held written same accepts unhomed
    have clamps : clamped = clampParam p v.toNat := by simp [clamped, clampParam, ← BitVec.toNat_inj]
    have writes : c = writeParam (par s) p v.toNat := by
      rw [writeParam, ← clamps]
      rfl
    have taken : accepts (ownEffect p (decide (held ≠ getParam (par s) p)) written) :=
      (exec_paramSet_of_takesAtOnce takes id v).trans
        (congrArg Host.Outcome.next (takeParamSet_of_allowed s writes named started allowed))
    have unchanged (is : same) : decide (held ≠ getParam (par s) p) = false := by simpa using is
    have differs (changes : ¬ same) : accepts (ownEffect p true written) := by
      have differ : decide (held ≠ getParam (par s) p) = true := by simpa using changes
      rwa [differ] at taken
    refine ⟨fun is report period window tilt steer bar => ?_, fun plain => ?_, fun which changes => ?_,
      fun which changes => ?_, fun which changes => ?_, fun which changes => ?_, fun which => ?_, fun which unsynced => ?_,
      fun which synced => ?_, fun which => ?_, fun which => ?_, fun which => ?_⟩
    · rw [unchanged is] at taken
      cases p with
      | reportPeriod | framePeriod | strobeWindow | cprTilt | cprSteer | cprBar => contradiction
      | _ => exact taken
    · rwa [ownEffect_of_none written plain] at taken
    · subst which
      exact differs changes
    · subst which
      exact differs changes
    · subst which
      exact differs changes
    · subst which
      exact differs changes
    · subst which
      exact taken
    · obtain rfl | rfl := which
      · rwa [ownEffect, gridParameterChanged_of_unsynced written unsynced] at taken
      · rwa [ownEffect, gridParameterChanged_of_unsynced written unsynced] at taken
    · obtain rfl | rfl := which
      · rwa [ownEffect, gridParameterChanged_of_synced written synced] at taken
      · rwa [ownEffect, gridParameterChanged_of_synced written synced] at taken
    · subst which
      exact taken
    · subst which
      exact taken
    · subst which
      exact taken
  · rw [exec_mapSet_of_takesAtOnce takes, takeMapSet_of_init s _ _ _ _ _ init]
  · rw [exec_mapSet_of_takesAtOnce takes, takeMapSet_of_outside s _ _ _ _ started outside]
  · intro held m rises
    have taken := (exec_mapSet_of_takesAtOnce takes point speed kc kcs lmax).trans
      (congrArg Host.Outcome.next (takeMapSet_of_inside s speed kc kcs lmax started inside))
    refine ⟨fun order => taken.trans (congrArg Host.Outcome.next (if_pos ((mapOrdered_iff m).mpr order))),
      fun broken => taken.trans (congrArg Host.Outcome.next (if_neg fun order => broken ((mapOrdered_iff m).mp order)))⟩

end Sys2Proof.Machine
end

section
/-! The operations of the store: the ends of the flash transactions, and what a load passes on (R213, R217 to R219, R223). -/

namespace Sys2Proof.Machine

variable (s : State)

/-! ### The end of an operation (R219, R223) -/

/-- The store after an operation. -/
theorem endOperation_store (result : StoreResult) :
    (endOperation result s).store = ⟨s.store.working, stateAfter result, none, none, none, none⟩ := by
  simp [endOperation, setStore]

/-! ### What a load passes on (R213, R219) -/

theorem effectTaken_none (old new : Params) (q : Param) :
    effectTaken old new none q = decide (getParam old q ≠ getParam new q) := by simp [effectTaken]

/-- A channel that a load makes UNHOMED when its CPR changes (R100). -/
def unhomedIf (changed : Bool) (r : Channel) : Channel :=
  if changed then { r with state := .unhomed, lastDiff := none, suspectStart := none } else r

theorem effectIf_unhomeChannel (b : Bool) (c : ChannelId) :
    effectIf b (unhomeChannel c) s = setChannel c (unhomedIf b (getChannel s c)) s := by
  cases b with
  | true => rfl
  | false => cases c <;> rfl

/-- The status timer when REPORT_PERIOD changes (R200). -/
theorem effectIf_reportPeriodChanged (old : Params) {new : Params} (held : par s = new) :
    effectIf (decide (getParam old .reportPeriod ≠ getParam new .reportPeriod)) reportPeriodChanged s =
      { s with link := { s.link with
          statusTimer :=
            if old.reportPeriod = new.reportPeriod then s.link.statusTimer
            else if new.reportPeriod = 0 then none else some (after (now s) (1000 * new.reportPeriod)) } } := by
  subst held
  rw [effectIf_ne]
  by_cases same : old.reportPeriod = (par s).reportPeriod
  · rw [if_pos same]
    exact (if_pos same).trans rfl
  · rw [if_neg same]
    exact (if_neg same).trans rfl

/-- A change of the grid parameters (R131). -/
theorem effectIf_gridParameterChanged (old new : Params) :
    effectIf (decide (getParam old .framePeriod ≠ getParam new .framePeriod) ||
        decide (getParam old .strobeWindow ≠ getParam new .strobeWindow)) gridParameterChanged s =
      if (old.framePeriod = new.framePeriod ∧ old.strobeWindow = new.strobeWindow) ∨ s.timeBase.sync = .unsynced then s
      else
        postTimebaseNotice ⟨.unsynced, s.timeBase.sync, s.timeBase.frameCount, false, msOf (now s)⟩
          { s with timeBase :=
              { s.timeBase with
                sync := .unsynced, gridStart := none, aligned := false, goodRun := 0, missedRun := 0 } } := by
  by_cases same : old.framePeriod = new.framePeriod ∧ old.strobeWindow = new.strobeWindow
  · simp [effectIf, getParam, same]
  · have taken : (decide (getParam old .framePeriod ≠ getParam new .framePeriod) ||
        decide (getParam old .strobeWindow ≠ getParam new .strobeWindow)) = true := by
      rw [Bool.or_eq_true, decide_eq_true_eq, decide_eq_true_eq]
      exact Decidable.not_and_iff_not_or_not.mp same
    by_cases unsynced : s.timeBase.sync = .unsynced
    · rw [if_pos (.inr unsynced), effectIf, taken, if_pos rfl, gridParameterChanged_of_unsynced s unsynced]
    · rw [if_neg (not_or.mpr ⟨same, unsynced⟩), effectIf, taken, if_pos rfl, gridParameterChanged_of_synced s unsynced]

/-- What every effect keeps, an effect that may be taken keeps. -/
theorem effectIf_keeps {α : Type} (view : State → α) {f : State → State} (keeps : ∀ t, view (f t) = view t) (b : Bool)
    (t : State) : view (effectIf b f t) = view t := by
  unfold effectIf
  split
  · exact keeps t
  · rfl

/-- What the effects of a change beside the limits all keep. -/
theorem passOn_keeps {α : Type} (view : State → α) (ranges : ∀ c t, view (rangeCheck c t) = view t)
    (unhomes : ∀ c t, view (unhomeChannel c t) = view t) (grid : ∀ t, view (gridParameterChanged t) = view t)
    (period : ∀ t, view (reportPeriodChanged t) = view t) (old new : Params) (written : Option Param) :
    view (passOn old new written s) = view s := by
  unfold passOn
  dsimp only
  rw [effectIf_keeps view (ranges .steer), effectIf_keeps view (ranges .tilt), effectIf_keeps view (unhomes .bar),
    effectIf_keeps view (unhomes .steer), effectIf_keeps view (unhomes .tilt), effectIf_keeps view grid,
    effectIf_keeps view period]

theorem replaceWorking_store (c : Calibration) (written : Option Param) :
    (replaceWorking c written s).store = { s.store with working := c } := by
  rw [replaceWorking_eq, passOn_keeps _ State.store (by simp) (by simp) (by simp) fun _ => rfl]
  rfl

theorem now_gridParameterChanged : now (gridParameterChanged s) = now s := by
  by_cases unsynced : s.timeBase.sync = .unsynced
  · rw [gridParameterChanged_of_unsynced s unsynced]
  · rw [gridParameterChanged_of_synced s unsynced]
    simp [now]

theorem replaceWorking_now (c : Calibration) (written : Option Param) : now (replaceWorking c written s) = now s := by
  rw [replaceWorking_eq, passOn_keeps _ now (by simp [now]) (by simp [now]) now_gridParameterChanged fun _ => rfl]
  rfl

/-- The state with a loaded calibration, but for a loss of synchronisation and the range checks (R24, R76, R100, R140, R150,
R200, R219). -/
def replacedState (c : Calibration) (s : State) : State :=
  let old := par s
  let new := c.params
  { retuned c s with
    channels :=
      ⟨unhomedIf (old.cprTilt != new.cprTilt) s.channels.tilt, unhomedIf (old.cprSteer != new.cprSteer) s.channels.steer,
       unhomedIf (old.cprBar != new.cprBar) s.channels.bar⟩
    link := { s.link with
      statusTimer :=
        if old.reportPeriod = new.reportPeriod then s.link.statusTimer
        else if new.reportPeriod = 0 then none else some (after (now s) (1000 * new.reportPeriod)) } }

/-- The state with a loaded calibration before the range checks (R131). -/
def resyncedState (c : Calibration) (s : State) : State :=
  let old := par s
  let new := c.params
  if (old.framePeriod = new.framePeriod ∧ old.strobeWindow = new.strobeWindow) ∨ s.timeBase.sync = .unsynced then
    replacedState c s
  else
    postTimebaseNotice ⟨.unsynced, s.timeBase.sync, s.timeBase.frameCount, false, msOf (now s)⟩
      { replacedState c s with
        timeBase := { s.timeBase with
          sync := .unsynced, gridStart := none, aligned := false, goodRun := 0, missedRun := 0 } }

/-- The three channels of a state, each made UNHOMED or kept. -/
theorem unhomeEach (tilt steer bar : Bool) :
    effectIf bar (unhomeChannel .bar) (effectIf steer (unhomeChannel .steer) (effectIf tilt (unhomeChannel .tilt) s)) =
      { s with channels :=
          ⟨unhomedIf tilt s.channels.tilt, unhomedIf steer s.channels.steer, unhomedIf bar s.channels.bar⟩ } := by
  rw [effectIf_unhomeChannel, effectIf_unhomeChannel, effectIf_unhomeChannel]
  rfl

theorem decide_ne_eq_bne (m n : Nat) : decide (m ≠ n) = (m != n) := by
  by_cases same : m = n
  · simp [same]
  · simp [same]

/-- What a load leaves (R213, R219): the limits, the timers and the channels first, the range checks last. -/
theorem replaceWorking_of_load (c : Calibration) :
    replaceWorking c none s =
      let tilted :=
        if (par s).tiltLimit = c.params.tiltLimit then resyncedState c s else rangeCheck .tilt (resyncedState c s)
      if (par s).steerLimit = c.params.steerLimit then tilted else rangeCheck .steer tilted := by
  have resynced :
      effectIf (decide (getParam (par s) .cprBar ≠ getParam c.params .cprBar)) (unhomeChannel .bar)
        (effectIf (decide (getParam (par s) .cprSteer ≠ getParam c.params .cprSteer)) (unhomeChannel .steer)
          (effectIf (decide (getParam (par s) .cprTilt ≠ getParam c.params .cprTilt)) (unhomeChannel .tilt)
            (effectIf (decide (getParam (par s) .framePeriod ≠ getParam c.params .framePeriod) ||
                decide (getParam (par s) .strobeWindow ≠ getParam c.params .strobeWindow)) gridParameterChanged
              (effectIf (decide (getParam (par s) .reportPeriod ≠ getParam c.params .reportPeriod)) reportPeriodChanged
                (retuned c s))))) = resyncedState c s := by
    rw [effectIf_reportPeriodChanged (retuned c s) (par s) (new := c.params) rfl, effectIf_gridParameterChanged, decide_ne_eq_bne,
      decide_ne_eq_bne, decide_ne_eq_bne]
    by_cases kept : ((par s).framePeriod = c.params.framePeriod ∧ (par s).strobeWindow = c.params.strobeWindow) ∨
        s.timeBase.sync = .unsynced
    · refine (congrArg _ (congrArg _ (congrArg _ (if_pos kept)))).trans ?_
      rw [unhomeEach]
      exact (if_pos kept).symm
    · refine (congrArg _ (congrArg _ (congrArg _ (if_neg kept)))).trans ?_
      rw [unhomeEach]
      exact (if_neg kept).symm
  rw [replaceWorking_eq]
  unfold passOn
  simp only [effectTaken_none]
  rw [resynced, effectIf_ne, effectIf_ne]
  rfl

/-- The end of a load that puts a calibration in force: the notice tells the operation that ran (R219). -/
theorem completeLoad_some (result : StoreResult) (c : Calibration) :
    completeLoad result (some c) s =
      postStoreNotice ⟨s.store.operation.getD .startUp, result, stateAfter result, msOf (now s)⟩
        (setStore { (replaceWorking c none s).store with
          state := stateAfter result, operation := none, snapshot := none, pollLimit := none, step := none }
          (replaceWorking c none s)) := by
  rw [completeLoad, endOperation, nowMs, replaceWorking_now, replaceWorking_store]

/-- The store after a load that puts a calibration in force (R219). -/
theorem completeLoad_store (result : StoreResult) (c : Calibration) :
    (completeLoad result (some c) s).store = ⟨c, stateAfter result, none, none, none, none⟩ := by
  rw [completeLoad, endOperation_store, replaceWorking_store]

/-! ### The header and the body of an image (R218) -/

theorem judgeHeader_of_empty {h : Vector Byte 8} (first : h[0] = 0xFF) (second : h[1] = 0xFF) : judgeHeader h = .empty :=
  if_pos ⟨first, second⟩

/-- The checks of a header that is not empty: magic, version, tuple count and body length (R218). -/
def HeaderPasses (h : Vector Byte 8) : Prop :=
  h[0] = 0x5A ∧ h[1] = 0x3C ∧ h[2] = 1 ∧ h[3].toNat ≤ 64 ∧ (h[5] ++ h[4] : Half).toNat = 72 + 3 * h[3].toNat

theorem judgeHeader_of_pass {h : Vector Byte 8} (passes : HeaderPasses h) :
    judgeHeader h = .pass h[3].toNat (h[7] ++ h[6]) := by
  obtain ⟨magic, more, version, count, length⟩ := passes
  have written : ¬ (h[0] = 0xFF ∧ h[1] = 0xFF) := by
    rw [magic]
    exact fun empty => absurd empty.1 (by decide)
  rw [judgeHeader, if_neg written, if_neg (not_not_intro ⟨magic, more⟩), if_neg (not_not_intro version),
    if_neg (Nat.not_lt.mpr count), if_neg (not_not_intro length)]

theorem judgeHeader_of_bad {h : Vector Byte 8} (written : ¬ (h[0] = 0xFF ∧ h[1] = 0xFF)) (fails : ¬ HeaderPasses h) :
    judgeHeader h = .bad := by
  unfold judgeHeader
  rw [if_neg written]
  split
  · rfl
  · next magic =>
    split
    · rfl
    · next version =>
      split
      · rfl
      · next count =>
        split
        · rfl
        · next length =>
          obtain ⟨first, second⟩ := Decidable.not_not.mp magic
          exact absurd ⟨first, second, Decidable.not_not.mp version, Nat.not_lt.mp count, Decidable.not_not.mp length⟩ fails

theorem exec_headerReadDone_of_loading {h : Vector Byte 8} (step : s.store.step = some .loadHeader) :
    exec (.headerReadDone h) s = .next (headerStep h s) := congrArg Host.Outcome.next (if_pos step)

theorem headerStep_of_empty {h : Vector Byte 8} (first : h[0] = 0xFF) (second : h[1] = 0xFF) :
    headerStep h s = completeLoad .empty (some defaultCalibration) s := by
  rw [headerStep, judgeHeader_of_empty first second]

theorem headerStep_of_pass {h : Vector Byte 8} (passes : HeaderPasses h) :
    headerStep h s = goToStep (.loadBody h[3].toNat (h[7] ++ h[6])) s := by
  rw [headerStep, judgeHeader_of_pass passes]

theorem headerStep_of_bad {h : Vector Byte 8} (written : ¬ (h[0] = 0xFF ∧ h[1] = 0xFF)) (fails : ¬ HeaderPasses h) :
    headerStep h s = endOperation .bad s := by
  rw [headerStep, judgeHeader_of_bad written fails]
  rfl

theorem exec_bodyReadDone_of_loading {n : Nat} {crc : Half} {body : List Byte} (step : s.store.step = some (.loadBody n crc))
    (length : body.length = 72 + 3 * n) : exec (.bodyReadDone body) s = .next (bodyStep crc body s) := by
  rw [exec_bodyReadDone, execBodyReadDone, step]
  exact congrArg Host.Outcome.next (if_pos length)

theorem bodyStep_of_bad {crc : Half} {body : List Byte} (bad : crc16 body ≠ crc ∨ mapOrdered (bodyMap body) = false) :
    bodyStep crc body s = endOperation .bad s := by
  unfold bodyStep
  split
  · rfl
  · next same => exact if_pos (bad.resolve_left same)

theorem bodyStep_of_good {crc : Half} {body : List Byte} (good : crc16 body = crc)
    (ordered : mapOrdered (bodyMap body) = true) :
    bodyStep crc body s = completeLoad .valid (some (bodyCalibration body)) s := by
  rw [bodyStep, if_neg (not_not_intro good), if_neg (by rw [ordered]; decide)]

/-! ### The ready polls and the read-back (R217, R223) -/

theorem readStatusStep_of_ready {b : Byte} (ready : b.getLsbD 0 = false) :
    readStatusStep b s =
      match s.store.step with
      | some .loadPoll => goToStep .loadHeader s
      | some .savePollFirst => goToStep .saveEnableErase s
      | some .savePollSecond => goToStep .saveEnableProgram s
      | some .savePollThird => goToStep .saveVerify s
      | _ => s :=
  if_neg (by rw [ready]; decide)

theorem exec_verifyReadDone_of_verifying {bytes : Vector Byte 176} {c : Calibration} (step : s.store.step = some .saveVerify)
    (snapshot : s.store.snapshot = some c) :
    exec (.verifyReadDone bytes) s =
      .next (if bytes.toList = imageBytes c then endOperation .done s else endOperation .verifyFailed s) := by
  rw [exec_verifyReadDone, execVerifyReadDone, if_pos step, verifyStep, snapshot]
  simp [eq_comm]

/-- Settles O60: each transaction's end by the step it stands at, and what a load passes on. -/
theorem flashTransactions : Obligations.FlashTransactions := by
  unfold Obligations.FlashTransactions
  intro s at_ poll ended
  have failed (result : StoreResult) : endOperation result s = ended result (stateAfter result) s := rfl
  have loaded (result : StoreResult) (c : Calibration) :
      completeLoad result (some c) s = ended result (stateAfter result) (replaceWorking c none s) := completeLoad_some s result c
  refine ⟨fun b busy => ?_, fun b ready => ?_, fun expired => ?_, fun c => ⟨?_, replaceWorking_store s c none⟩,
    fun h step => ⟨fun first second => ?_, fun written fails => ?_, fun magic more version count length => ?_⟩,
    fun n crc body step length => ⟨fun bad => ?_, fun good ordered => ?_⟩, fun step => ?_, fun step => ?_, fun step => ?_,
    fun step => ?_, fun bytes c step snapshot => ⟨fun same => ?_, fun differs => ?_⟩⟩
  · exact congrArg Host.Outcome.next (if_pos busy)
  · rw [exec_readStatusDone, execReadStatusDone, readStatusStep_of_ready s ready]
    refine ⟨fun step => ?_, fun step => ?_, fun step => ?_, fun step => ?_⟩ <;> rw [step] <;> rfl
  · exact congrArg Host.Outcome.next (if_pos (decide_eq_true expired))
  · exact replaceWorking_of_load s c
  · rw [exec_headerReadDone_of_loading s step, headerStep_of_empty s first second]
    exact ⟨congrArg Host.Outcome.next (loaded .empty _), _, rfl, completeLoad_store s .empty _⟩
  · rw [exec_headerReadDone_of_loading s step, headerStep_of_bad s written fails]
    rfl
  · rw [exec_headerReadDone_of_loading s step, headerStep_of_pass s ⟨magic, more, version, count, length⟩]
    rfl
  · rw [exec_bodyReadDone_of_loading s step length, bodyStep_of_bad s bad]
    rfl
  · rw [exec_bodyReadDone_of_loading s step length, bodyStep_of_good s good ordered]
    exact ⟨congrArg Host.Outcome.next (loaded .valid _), _, rfl, completeLoad_store s .valid _⟩
  · rw [exec_writeEnableDone, execWriteEnableDone, step]
    rfl
  · rw [exec_writeEnableDone, execWriteEnableDone, step]
    rfl
  · exact congrArg Host.Outcome.next (if_pos step)
  · exact congrArg Host.Outcome.next (if_pos step)
  · rw [exec_verifyReadDone_of_verifying s step snapshot, if_pos same]
    rfl
  · rw [exec_verifyReadDone_of_verifying s step snapshot, if_neg differs]
    rfl

end Sys2Proof.Machine
end

section
/-! The image of a calibration: its bytes, and the way back from them (R208, R218, R219, R222). -/

namespace Sys2Proof.Machine

/-! ### Two-byte fields (R3, R208) -/

/-- A value of two bytes is read back from its field. -/
theorem toNat_half_of_nat {v : Nat} (fits : v < 65536) : (byteOf (v / 256) ++ byteOf v : Half).toNat = v := by
  rw [toNat_append_byte]
  simp only [byteOf, BitVec.toNat_ofNat]
  omega

/-! ### The map of an image (R208, R215) -/

/-- The fields of a point in range fit their two bytes and stand as they are when clamped (R215). -/
def PointInRange (p : MapPoint) : Prop := p.speed ≤ 2000 ∧ p.kc ≤ 5000 ∧ p.kcs ≤ 2000 ∧ p.lmax ≤ 4254

theorem clampPoint_of_inRange {p : MapPoint} (range : PointInRange p) : clampPoint p = p := by
  obtain ⟨speed, kc, kcs, lmax⟩ := range
  rw [clampPoint, Nat.min_eq_left speed, Nat.min_eq_left kc, Nat.min_eq_left kcs, Nat.min_eq_left lmax]

/-- A point is read back from the front of the bytes. -/
theorem pointAt_pointBytes {p : MapPoint} (range : PointInRange p) (rest : List Byte) :
    pointAt (pointBytes p ++ rest) 0 = p := by
  obtain ⟨speed, kc, kcs, lmax⟩ := range
  have fields : pointAt (pointBytes p ++ rest) 0 =
      ⟨(byteOf (p.speed / 256) ++ byteOf p.speed : Half).toNat, (byteOf (p.kc / 256) ++ byteOf p.kc : Half).toNat,
       (byteOf (p.kcs / 256) ++ byteOf p.kcs : Half).toNat, (byteOf (p.lmax / 256) ++ byteOf p.lmax : Half).toNat⟩ := rfl
  rw [fields, toNat_half_of_nat (by omega), toNat_half_of_nat (by omega), toNat_half_of_nat (by omega),
    toNat_half_of_nat (by omega)]

/-- The points behind the first are found eight bytes further on. -/
theorem pointAt_pointBytes_add (p : MapPoint) (rest : List Byte) (i : Nat) :
    pointAt (pointBytes p ++ rest) (i + 8) = pointAt rest i := rfl

/-- The points of a list of points are found at every eighth byte. -/
theorem pointAt_flatMap {points : List MapPoint} (ranges : ∀ p ∈ points, PointInRange p) (rest : List Byte) (i : Nat)
    (inside : i < points.length) : pointAt (points.flatMap pointBytes ++ rest) (8 * i) = points[i] := by
  induction points generalizing i with
  | nil => contradiction
  | cons p points ih =>
    obtain ⟨first, others⟩ := List.forall_mem_cons.mp ranges
    rw [List.flatMap_cons, List.append_assoc]
    cases i with
    | zero => exact pointAt_pointBytes first _
    | succ i =>
      rw [Nat.mul_succ, pointAt_pointBytes_add]
      exact ih others i (Nat.lt_of_succ_lt_succ inside)

theorem length_pointBytes (p : MapPoint) : (pointBytes p).length = 8 := rfl

/-- A map in range is read back from its image (R218). -/
theorem bodyMap_of_points {m : Vector MapPoint 9} (ranges : ∀ p ∈ m.toList, PointInRange p) (rest : List Byte) :
    bodyMap (m.toList.flatMap pointBytes ++ rest) = m := by
  have point (i : Nat) (inside : i < 9) :
      clampPoint (pointAt (m.toList.flatMap pointBytes ++ rest) (8 * i)) = m[i] := by
    have listed : i < m.toList.length := by simpa using inside
    rw [pointAt_flatMap ranges rest i listed, clampPoint_of_inRange (ranges _ (List.getElem_mem listed))]
    simp
  refine Vector.ext fun i inside => ?_
  rw [← point i inside]
  match i, inside with
  | 0, _ | 1, _ | 2, _ | 3, _ | 4, _ | 5, _ | 6, _ | 7, _ | 8, _ => rfl

/-! ### The tuples of an image (R208, R219) -/

/-- The bytes of a parameter's tuple (R208). -/
def tupleBytes (c : Params) (p : Param) : List Byte := byteOf (paramRow p).id :: le16 (getParam c p)

theorem length_tupleBytes (c : Params) (p : Param) : (tupleBytes c p).length = 3 := rfl

theorem tuplesOf_flatMap (c : Params) (ps : List Param) :
    tuplesOf (ps.flatMap (tupleBytes c)) =
      ps.map fun p => (byteOf (paramRow p).id, byteOf (getParam c p / 256) ++ byteOf (getParam c p)) := by
  induction ps with
  | nil => rfl
  | cons p ps ih =>
    rw [List.map_cons, ← ih]
    rfl

theorem toNat_paramByte (p : Param) : (byteOf (paramRow p).id).toNat = (paramRow p).id := by
  obtain ⟨-, high⟩ := paramRow_id_range p
  rw [byteOf, BitVec.toNat_ofNat]
  omega

theorem lt_of_inRange {p : Param} {v : Nat} (range : inRange p v) : v < 65536 := by
  have rows : (paramRow p).hi < 65536 := by cases p <;> decide
  obtain held | zero := range <;> omega

theorem clampParam_of_inRange {p : Param} {v : Nat} (range : inRange p v) : clampParam p v = v := by
  unfold clampParam
  split
  · next zero => exact zero.2.symm
  · next other =>
    obtain ⟨low, high⟩ := range.resolve_right other
    omega

/-- The tuple of a value in range writes that value (R219). -/
theorem applyTuple_of_inRange (old : Params) {c : Params} (p : Param) (range : inRange p (getParam c p)) :
    applyTuple old (byteOf (paramRow p).id, byteOf (getParam c p / 256) ++ byteOf (getParam c p)) =
      setParam old p (getParam c p) := by
  rw [applyTuple, toNat_paramByte, paramOfId_paramRow]
  dsimp only
  rw [toNat_half_of_nat (lt_of_inRange range), clampParam_of_inRange range]

/-- The tuples of a calibration in range write its values over what is held, parameter by parameter. -/
theorem getParam_foldl_applyTuple {c : Params} (ranges : RangesHold c) (ps : List Param) (old : Params) (q : Param) :
    getParam ((ps.map fun p => (byteOf (paramRow p).id, (byteOf (getParam c p / 256) ++ byteOf (getParam c p) : Half))).foldl
        applyTuple old) q =
      if q ∈ ps then getParam c q else getParam old q := by
  induction ps generalizing old with
  | nil => rfl
  | cons p ps ih =>
    rw [List.map_cons, List.foldl_cons, ih, applyTuple_of_inRange old p (ranges p), getParam_setParam]
    by_cases own : q = p
    · simp [own]
    · simp [own]

theorem mem_allParams (p : Param) : p ∈ allParams := by cases p <;> decide

/-- Two parameter sets with the same values are one. -/
theorem params_ext {a b : Params} (same : ∀ q, getParam a q = getParam b q) : a = b := by
  obtain ⟨⟩ := a
  obtain ⟨⟩ := b
  rw [Params.mk.injEq]
  exact ⟨same .aMax, same .leanRate, same .vLock, same .vFree, same .vPark, same .tBlend, same .tDwell, same .wheelbase,
    same .steerRatioLow, same .steerLimit, same .steerRate, same .tiltLimit, same .kpTilt, same .kdTilt, same .kpSteer,
    same .kdSteer, same .uMax, same .creepDuty, same .cprTilt, same .cprSteer, same .cprBar, same .wheelPpr,
    same .circFront, same .circRear, same .framePeriod, same .strobeWindow, same .reportPeriod, same .slipAbs,
    same .slipRel, same .yawTol, same .barRateAbort, same .camberLimit⟩

/-- The parameters are read back from their tuples (R219). -/
theorem foldl_applyTuple_tuplesOf {c : Params} (ranges : RangesHold c) :
    (tuplesOf (allParams.flatMap (tupleBytes c))).foldl applyTuple defaultParams = c := by
  refine params_ext fun q => ?_
  rw [tuplesOf_flatMap, getParam_foldl_applyTuple ranges, if_pos (mem_allParams q)]

theorem crossConstrain_of_constrained {c : Params} (free : c.vLock + 50 ≤ c.vFree) (park : c.vPark + 20 ≤ c.vLock) :
    crossConstrain c = c := by
  have freeHeld : max c.vFree (c.vLock + 50) = c.vFree := Nat.max_eq_left free
  have parkHeld : min c.vPark (c.vLock - 20) = c.vPark := Nat.min_eq_left (Nat.le_sub_of_add_le park)
  rw [crossConstrain, freeHeld, parkHeld]

/-! ### The image (R222) -/

variable (c : Calibration)

theorem imageBody_eq :
    imageBody c = c.map.toList.flatMap pointBytes ++ allParams.flatMap (tupleBytes c.params) := rfl

theorem length_mapBytes : (c.map.toList.flatMap pointBytes).length = 72 := by
  rw [length_flatMap_of_const length_pointBytes, Vector.length_toList]

theorem length_imageBody : (imageBody c).length = 168 := by
  rw [imageBody_eq, List.length_append, length_mapBytes, length_flatMap_of_const (length_tupleBytes c.params)]
  rfl

theorem drop_imageBytes : (imageBytes c).drop 8 = imageBody c := rfl

theorem take_imageBytes :
    (imageBytes c).take 8 =
      [0x5A, 0x3C, 1, 32, 168, 0, byteOf (crc16 (imageBody c)).toNat, byteOf ((crc16 (imageBody c)).toNat / 256)] := rfl

theorem length_imageBytes : (imageBytes c).length = 176 := by
  have parts : imageBytes c = (imageBytes c).take 8 ++ imageBody c := rfl
  rw [parts, List.length_append, length_imageBody, take_imageBytes]
  rfl

/-- The body of a calibration in form gives that calibration (R219). -/
theorem bodyCalibration_imageBody (safe : CalibrationSafe c) : bodyCalibration (imageBody c) = c := by
  have tuples : (imageBody c).drop 72 = allParams.flatMap (tupleBytes c.params) := by
    rw [imageBody_eq, List.drop_left' (length_mapBytes c)]
  rw [bodyCalibration, tuples, foldl_applyTuple_tuplesOf safe.ranges,
    crossConstrain_of_constrained safe.freeAboveLock safe.parkBelowLock, imageBody_eq, bodyMap_of_points safe.mapRanges]

/-- The header of an image passes its checks, and names 32 tuples and the CRC of the body (R218). -/
theorem headerPasses_of_image {h : Vector Byte 8} (header : h.toList = (imageBytes c).take 8) :
    HeaderPasses h ∧ h[3].toNat = 32 ∧ h[7] ++ h[6] = crc16 (imageBody c) := by
  have read (i : Nat) (inside : i < 8) : h[i] = h.toList[i]'(by simpa using inside) := (Vector.getElem_toList _).symm
  have last : h[7] ++ h[6] = crc16 (imageBody c) := by
    rw [read 7 (by decide), read 6 (by decide)]
    simp only [header, take_imageBytes]
    exact bytes_of_half _
  refine ⟨⟨?_, ?_, ?_, ?_, ?_⟩, ?_, last⟩
  · simp [read, header, take_imageBytes]
  · simp [read, header, take_imageBytes]
  · simp [read, header, take_imageBytes]
  · simp [read, header, take_imageBytes]
  · simp [read, header, take_imageBytes]
  · simp [read, header, take_imageBytes]

/-- Settles O16: the header passes and names the body's CRC, and the body gives back the calibration. -/
theorem savedImageLoadsBack : Obligations.SavedImageLoadsBack := by
  unfold Obligations.SavedImageLoadsBack
  intro c s h safe header step
  obtain ⟨passes, count, crc⟩ := headerPasses_of_image c header
  have map : bodyMap (imageBody c) = c.map := congrArg Calibration.map (bodyCalibration_imageBody c safe)
  have ordered : mapOrdered (bodyMap (imageBody c)) = true := map ▸ safe.ordered
  have opened : exec (.headerReadDone h) s = .next (goToStep (.loadBody 32 (crc16 (imageBody c))) s) := by
    rw [exec_headerReadDone_of_loading s step, headerStep_of_pass s passes, count, crc]
  have loaded : exec (.bodyReadDone (imageBody c)) (goToStep (.loadBody 32 (crc16 (imageBody c))) s) =
      .next (completeLoad .valid (some c) (goToStep (.loadBody 32 (crc16 (imageBody c))) s)) := by
    rw [exec_bodyReadDone_of_loading _ rfl (length_imageBody c), bodyStep_of_good _ rfl ordered,
      bodyCalibration_imageBody c safe]
  rw [drop_imageBytes]
  refine ⟨length_imageBytes c, _, _, opened, rfl, loaded, ?_⟩
  rw [completeLoad_store]
  exact ⟨rfl, rfl, rfl⟩

end Sys2Proof.Machine
end
